-- ==== Sys2Proof/Word.lean ====
section
/-! DEFINITION. The words of the decoder: bytes, instruction words, the field types of 30_encoding.md R42, and texts. -/

namespace Sys2Proof

/-- A byte of the input stream (20_memory.md R20). -/
abbrev Byte := BitVec 8

/-- An InstructionWord, bit 0 the least significant (30_encoding.md R41, 00_scope.md R4). -/
abbrev Word := BitVec 32

/-- A register index: only an index, the block holds no register (10_state.md R12). -/
abbrev RegIndex := BitVec 5

/-- A shift amount field (30_encoding.md R42). -/
abbrev Shamt := BitVec 5

/-- A 16-bit immediate field (30_encoding.md R42). -/
abbrev Imm16 := BitVec 16

/-- A 26-bit jump target or code field (30_encoding.md R42). -/
abbrev Target26 := BitVec 26

/-- A text the block produces: 7-bit ASCII (00_scope.md R6; that every text of the model is ASCII is a statement, not a type; log entry 11). -/
abbrev Text := String

end Sys2Proof
end

