-- ==== Sys2Proof/Config.lean ====
section
/-! DEFINITION. The parameters of 00_scope.md R3. They are caller-supplied and fixed for a run, so they are plain data that
State carries, not constants of the model; the values here are the spec's defaults (92_eei_decisions.md D3, D4, D24; log entry 4).
The spec leaves no value undefined, so there is no free value. -/

namespace Sys2Proof

/-- `UNREC_POLICY`: what the sink does after an UnrecognizedInstruction result (00_scope.md R3, 49_sequencer.md R346). -/
inductive UnrecPolicy where
  /-- Go on asking (the default). -/
  | continues
  /-- Ask for nothing more. -/
  | aborts
  deriving DecidableEq, Repr

/-- The parameters of a run (00_scope.md R3). -/
structure Params where
  /-- `BASE`: the address of the first word; any value (20_memory.md R23). -/
  base : Nat
  /-- `AW`: the width of the address counter, `none` when unbounded (10_state.md R14, 49_sequencer.md R350). -/
  aw : Option Nat
  /-- `UNREC_POLICY` (49_sequencer.md R346). -/
  unrecPolicy : UnrecPolicy
  deriving DecidableEq, Repr

namespace Config

/-- The defaults: `BASE` 0, `AW` unbounded, `UNREC_POLICY` continue (00_scope.md R3). -/
def defaults : Params := { base := 0, aw := none, unrecPolicy := .continues }

end Config

end Sys2Proof
end

