-- ==== Sys2Proof/Syntax.lean ====
section
/-! DEFINITION. The instructions of the decoded set as syntax (one constructor per row of spec/opcode_table.json),
the eight fields of a word, and the descriptor types of the opcode table.
A constructor carries EVERY field of its layout, the fields the instruction ignores too (30_encoding.md R54), so that
one well-formed instruction stands for exactly one word (log entry 10). -/

namespace Sys2Proof

/-- The format tag of a descriptor and of a decoded instruction (30_encoding.md R46). -/
inductive Format where
  | R
  | I
  | J
  deriving DecidableEq, Repr

/-- The 16 operand classes (42_formatter.md R100 to R115): which operand text a descriptor asks for. -/
inductive OperandClass where
  /-- Class `NONE` (42_formatter.md R100). -/
  | none
  /-- Class `RD_RT_SA` (42_formatter.md R101). -/
  | rdRtSa
  /-- Class `RD_RT_RS` (42_formatter.md R102). -/
  | rdRtRs
  /-- Class `RS` (42_formatter.md R103). -/
  | rs
  /-- Class `RD_RS` (42_formatter.md R104). -/
  | rdRs
  /-- Class `RD` (42_formatter.md R105). -/
  | rd
  /-- Class `RS_RT` (42_formatter.md R106). -/
  | rsRt
  /-- Class `RD_RS_RT` (42_formatter.md R107). -/
  | rdRsRt
  /-- Class `RS_SIMM` (42_formatter.md R108). -/
  | rsSimm
  /-- Class `RS_RT_SIMM` (42_formatter.md R109). -/
  | rsRtSimm
  /-- Class `RT_RS_SIMM` (42_formatter.md R110). -/
  | rtRsSimm
  /-- Class `RT_RS_UIMM` (42_formatter.md R111). -/
  | rtRsUimm
  /-- Class `RT_UIMM` (42_formatter.md R112). -/
  | rtUimm
  /-- Class `RT_OFF_BASE` (42_formatter.md R113). -/
  | rtOffBase
  /-- Class `TARGET` (42_formatter.md R114). -/
  | target
  /-- Class `CODE26` (42_formatter.md R115). -/
  | code26
  deriving DecidableEq, Repr

/-- An InstructionDescriptor (41_dispatch.md R73): an entry of the opcode table. -/
structure Descriptor where
  mnemonic : Text
  format   : Format
  cls      : OperandClass
  deriving DecidableEq, Repr

/-- The eight fields of a word (30_encoding.md R42, 40_bitfield.md R65). -/
structure Fields where
  opcode : BitVec 6
  rs     : RegIndex
  rt     : RegIndex
  rd     : RegIndex
  shamt  : Shamt
  funct  : BitVec 6
  imm    : Imm16
  target : Target26
  deriving DecidableEq, Repr

/-- The instructions, in the order of the opcode table. -/
inductive Instr where
  -- `nop`, the all-zero word (30_encoding.md R55, 43_special.md R201)
  | nop
  -- SPECIAL family, opcode 0, selected by funct (30_encoding.md R50, 43_special.md R200)
  | sll (rs rt rd : RegIndex) (shamt : Shamt)
  | srl (rs rt rd : RegIndex) (shamt : Shamt)
  | sra (rs rt rd : RegIndex) (shamt : Shamt)
  | sllv (rs rt rd : RegIndex) (shamt : Shamt)
  | srlv (rs rt rd : RegIndex) (shamt : Shamt)
  | srav (rs rt rd : RegIndex) (shamt : Shamt)
  | jr (rs rt rd : RegIndex) (shamt : Shamt)
  | jalr (rs rt rd : RegIndex) (shamt : Shamt)
  | mfhi (rs rt rd : RegIndex) (shamt : Shamt)
  | mthi (rs rt rd : RegIndex) (shamt : Shamt)
  | mflo (rs rt rd : RegIndex) (shamt : Shamt)
  | mtlo (rs rt rd : RegIndex) (shamt : Shamt)
  | mult (rs rt rd : RegIndex) (shamt : Shamt)
  | multu (rs rt rd : RegIndex) (shamt : Shamt)
  | div (rs rt rd : RegIndex) (shamt : Shamt)
  | divu (rs rt rd : RegIndex) (shamt : Shamt)
  | add (rs rt rd : RegIndex) (shamt : Shamt)
  | addu (rs rt rd : RegIndex) (shamt : Shamt)
  | sub (rs rt rd : RegIndex) (shamt : Shamt)
  | subu (rs rt rd : RegIndex) (shamt : Shamt)
  | and (rs rt rd : RegIndex) (shamt : Shamt)
  | or (rs rt rd : RegIndex) (shamt : Shamt)
  | xor (rs rt rd : RegIndex) (shamt : Shamt)
  | nor (rs rt rd : RegIndex) (shamt : Shamt)
  | slt (rs rt rd : RegIndex) (shamt : Shamt)
  | sltu (rs rt rd : RegIndex) (shamt : Shamt)
  -- REGIMM family, opcode 1, selected by the rt field, which is therefore no operand (30_encoding.md R51, 44_regimm.md R240)
  | bltz (rs : RegIndex) (imm : Imm16)
  | bgez (rs : RegIndex) (imm : Imm16)
  | bltzal (rs : RegIndex) (imm : Imm16)
  | bgezal (rs : RegIndex) (imm : Imm16)
  | tgei (rs : RegIndex) (imm : Imm16)
  | tgeiu (rs : RegIndex) (imm : Imm16)
  | tlti (rs : RegIndex) (imm : Imm16)
  | tltiu (rs : RegIndex) (imm : Imm16)
  | teqi (rs : RegIndex) (imm : Imm16)
  | tnei (rs : RegIndex) (imm : Imm16)
  -- SPECIAL2 family, opcode 0x1C, selected by funct (30_encoding.md R52, 45_special2.md R260)
  | madd (rs rt rd : RegIndex) (shamt : Shamt)
  | maddu (rs rt rd : RegIndex) (shamt : Shamt)
  | mul (rs rt rd : RegIndex) (shamt : Shamt)
  | msub (rs rt rd : RegIndex) (shamt : Shamt)
  | msubu (rs rt rd : RegIndex) (shamt : Shamt)
  | clz (rs rt rd : RegIndex) (shamt : Shamt)
  | clo (rs rt rd : RegIndex) (shamt : Shamt)
  -- selected by the primary opcode alone (30_encoding.md R49)
  | j (target : Target26)
  | jal (target : Target26)
  | beq (rs rt : RegIndex) (imm : Imm16)
  | bne (rs rt : RegIndex) (imm : Imm16)
  | blez (rs rt : RegIndex) (imm : Imm16)
  | bgtz (rs rt : RegIndex) (imm : Imm16)
  | addi (rs rt : RegIndex) (imm : Imm16)
  | addiu (rs rt : RegIndex) (imm : Imm16)
  | slti (rs rt : RegIndex) (imm : Imm16)
  | sltiu (rs rt : RegIndex) (imm : Imm16)
  | andi (rs rt : RegIndex) (imm : Imm16)
  | ori (rs rt : RegIndex) (imm : Imm16)
  | xori (rs rt : RegIndex) (imm : Imm16)
  | lui (rs rt : RegIndex) (imm : Imm16)
  | llo (rs rt : RegIndex) (imm : Imm16)
  | lhi (rs rt : RegIndex) (imm : Imm16)
  | trap (target : Target26)
  | lb (rs rt : RegIndex) (imm : Imm16)
  | lh (rs rt : RegIndex) (imm : Imm16)
  | lw (rs rt : RegIndex) (imm : Imm16)
  | lbu (rs rt : RegIndex) (imm : Imm16)
  | lhu (rs rt : RegIndex) (imm : Imm16)
  | sb (rs rt : RegIndex) (imm : Imm16)
  | sh (rs rt : RegIndex) (imm : Imm16)
  | sw (rs rt : RegIndex) (imm : Imm16)
  | ll (rs rt : RegIndex) (imm : Imm16)
  | sc (rs rt : RegIndex) (imm : Imm16)
  deriving DecidableEq, Repr

end Sys2Proof
end

