-- ==== Sys2Proof/WellFormed.lean ====
section
/-! DEFINITION. Which instruction terms stand for a word.
One check: `sll` with every field zero is no instruction, because its word is the all-zero word, and that word is `nop`
(30_encoding.md R55, 43_special.md R201 and R202, 90_conflicts.md C4). Every other term is well-formed: field widths are
in the types, and the fields an instruction ignores may hold anything (30_encoding.md R54). -/

namespace Sys2Proof

/-- The instruction is one that some word decodes to. -/
def Instr.wf (i : Instr) : Bool :=
  match i with
  | .nop => true
  | .sll rs rt rd shamt => !(rs == 0 && rt == 0 && rd == 0 && shamt == 0)
  | .srl _ _ _ _ => true
  | .sra _ _ _ _ => true
  | .sllv _ _ _ _ => true
  | .srlv _ _ _ _ => true
  | .srav _ _ _ _ => true
  | .jr _ _ _ _ => true
  | .jalr _ _ _ _ => true
  | .mfhi _ _ _ _ => true
  | .mthi _ _ _ _ => true
  | .mflo _ _ _ _ => true
  | .mtlo _ _ _ _ => true
  | .mult _ _ _ _ => true
  | .multu _ _ _ _ => true
  | .div _ _ _ _ => true
  | .divu _ _ _ _ => true
  | .add _ _ _ _ => true
  | .addu _ _ _ _ => true
  | .sub _ _ _ _ => true
  | .subu _ _ _ _ => true
  | .and _ _ _ _ => true
  | .or _ _ _ _ => true
  | .xor _ _ _ _ => true
  | .nor _ _ _ _ => true
  | .slt _ _ _ _ => true
  | .sltu _ _ _ _ => true
  | .bltz _ _ => true
  | .bgez _ _ => true
  | .bltzal _ _ => true
  | .bgezal _ _ => true
  | .tgei _ _ => true
  | .tgeiu _ _ => true
  | .tlti _ _ => true
  | .tltiu _ _ => true
  | .teqi _ _ => true
  | .tnei _ _ => true
  | .madd _ _ _ _ => true
  | .maddu _ _ _ _ => true
  | .mul _ _ _ _ => true
  | .msub _ _ _ _ => true
  | .msubu _ _ _ _ => true
  | .clz _ _ _ _ => true
  | .clo _ _ _ _ => true
  | .j _ => true
  | .jal _ => true
  | .beq _ _ _ => true
  | .bne _ _ _ => true
  | .blez _ _ _ => true
  | .bgtz _ _ _ => true
  | .addi _ _ _ => true
  | .addiu _ _ _ => true
  | .slti _ _ _ => true
  | .sltiu _ _ _ => true
  | .andi _ _ _ => true
  | .ori _ _ _ => true
  | .xori _ _ _ => true
  | .lui _ _ _ => true
  | .llo _ _ _ => true
  | .lhi _ _ _ => true
  | .trap _ => true
  | .lb _ _ _ => true
  | .lh _ _ _ => true
  | .lw _ _ _ => true
  | .lbu _ _ _ => true
  | .lhu _ _ _ => true
  | .sb _ _ _ => true
  | .sh _ _ _ => true
  | .sw _ _ _ => true
  | .ll _ _ _ => true
  | .sc _ _ _ => true

end Sys2Proof
end

