-- ==== Sys2Proof/Decode.lean ====
section
/-! DEFINITION. From bytes to instructions: byte order (20_memory.md R21), the bitfield extractor (40_bitfield.md R60, R61),
the fields (30_encoding.md R42), the dispatch (41_dispatch.md R72) with its maps (30_encoding.md R49 to R52); and, after it,
the encoder written from the layouts R43 to R45. -/

namespace Sys2Proof

/-- Why the decoder gives no instruction. -/
inductive Reject where
  /-- A complete word of the reserved space (30_encoding.md R53, 41_dispatch.md R75), with the raw opcode and function fields. -/
  | unrecognized (opcode function : BitVec 6)
  /-- No byte is left (49_sequencer.md R344). -/
  | endOfInput
  /-- One to three bytes are left (49_sequencer.md R345). -/
  | truncated
  /-- `extract` was called outside its constraints (40_bitfield.md R61): no call of the decoder is (60_exceptions.md R403). -/
  | fieldRange
  deriving DecidableEq, Repr

/-- The word of four stream bytes, little-endian: the first byte is bits 7:0 (20_memory.md R21). -/
def assembleWord (b0 b1 b2 b3 : Byte) : Word :=
  b3 ++ b2 ++ b1 ++ b0

/-- The four stream bytes of a word, in stream order (the inverse of `assembleWord`, 20_memory.md R21). -/
def wordBytes (w : Word) : List Byte :=
  [w.extractLsb' 0 8, w.extractLsb' 8 8, w.extractLsb' 16 8, w.extractLsb' 24 8]

/-- The bitfield extractor: `(word >> offset) & ((1 << width) - 1)` (40_bitfield.md R60), failing fast outside
`0 < width <= 32`, `offset + width <= 32` (R61). -/
def extract (w : Word) (offset width : Nat) : Except Reject (BitVec width) :=
  if 0 < width ∧ width ≤ 32 ∧ offset + width ≤ 32 then
    .ok ((w >>> offset).setWidth width)
  else
    .error .fieldRange

/-- All eight fields, extracted once for every word (41_dispatch.md R71, 30_encoding.md R42). -/
def fieldsOf (w : Word) : Except Reject Fields := do
  let opcode ← extract w 26 6
  let rs ← extract w 21 5
  let rt ← extract w 16 5
  let rd ← extract w 11 5
  let shamt ← extract w 6 5
  let funct ← extract w 0 6
  let imm ← extract w 0 16
  let target ← extract w 0 26
  return { opcode, rs, rt, rd, shamt, funct, imm, target }

/-- SPECIAL, by funct (30_encoding.md R50). -/
def decodeSpecial (f : Fields) : Option Instr :=
  match f.funct with
  | 0x00#6 => some (.sll f.rs f.rt f.rd f.shamt)
  | 0x02#6 => some (.srl f.rs f.rt f.rd f.shamt)
  | 0x03#6 => some (.sra f.rs f.rt f.rd f.shamt)
  | 0x04#6 => some (.sllv f.rs f.rt f.rd f.shamt)
  | 0x06#6 => some (.srlv f.rs f.rt f.rd f.shamt)
  | 0x07#6 => some (.srav f.rs f.rt f.rd f.shamt)
  | 0x08#6 => some (.jr f.rs f.rt f.rd f.shamt)
  | 0x09#6 => some (.jalr f.rs f.rt f.rd f.shamt)
  | 0x10#6 => some (.mfhi f.rs f.rt f.rd f.shamt)
  | 0x11#6 => some (.mthi f.rs f.rt f.rd f.shamt)
  | 0x12#6 => some (.mflo f.rs f.rt f.rd f.shamt)
  | 0x13#6 => some (.mtlo f.rs f.rt f.rd f.shamt)
  | 0x18#6 => some (.mult f.rs f.rt f.rd f.shamt)
  | 0x19#6 => some (.multu f.rs f.rt f.rd f.shamt)
  | 0x1A#6 => some (.div f.rs f.rt f.rd f.shamt)
  | 0x1B#6 => some (.divu f.rs f.rt f.rd f.shamt)
  | 0x20#6 => some (.add f.rs f.rt f.rd f.shamt)
  | 0x21#6 => some (.addu f.rs f.rt f.rd f.shamt)
  | 0x22#6 => some (.sub f.rs f.rt f.rd f.shamt)
  | 0x23#6 => some (.subu f.rs f.rt f.rd f.shamt)
  | 0x24#6 => some (.and f.rs f.rt f.rd f.shamt)
  | 0x25#6 => some (.or f.rs f.rt f.rd f.shamt)
  | 0x26#6 => some (.xor f.rs f.rt f.rd f.shamt)
  | 0x27#6 => some (.nor f.rs f.rt f.rd f.shamt)
  | 0x2A#6 => some (.slt f.rs f.rt f.rd f.shamt)
  | 0x2B#6 => some (.sltu f.rs f.rt f.rd f.shamt)
  | _ => none

/-- REGIMM, by rt (30_encoding.md R51). -/
def decodeRegimm (f : Fields) : Option Instr :=
  match f.rt with
  | 0x00#5 => some (.bltz f.rs f.imm)
  | 0x01#5 => some (.bgez f.rs f.imm)
  | 0x10#5 => some (.bltzal f.rs f.imm)
  | 0x11#5 => some (.bgezal f.rs f.imm)
  | 0x08#5 => some (.tgei f.rs f.imm)
  | 0x09#5 => some (.tgeiu f.rs f.imm)
  | 0x0A#5 => some (.tlti f.rs f.imm)
  | 0x0B#5 => some (.tltiu f.rs f.imm)
  | 0x0C#5 => some (.teqi f.rs f.imm)
  | 0x0E#5 => some (.tnei f.rs f.imm)
  | _ => none

/-- SPECIAL2, by funct (30_encoding.md R52). -/
def decodeSpecial2 (f : Fields) : Option Instr :=
  match f.funct with
  | 0x00#6 => some (.madd f.rs f.rt f.rd f.shamt)
  | 0x01#6 => some (.maddu f.rs f.rt f.rd f.shamt)
  | 0x02#6 => some (.mul f.rs f.rt f.rd f.shamt)
  | 0x04#6 => some (.msub f.rs f.rt f.rd f.shamt)
  | 0x05#6 => some (.msubu f.rs f.rt f.rd f.shamt)
  | 0x20#6 => some (.clz f.rs f.rt f.rd f.shamt)
  | 0x21#6 => some (.clo f.rs f.rt f.rd f.shamt)
  | _ => none

/-- Every other primary opcode, directly (30_encoding.md R49). -/
def decodeDirect (f : Fields) : Option Instr :=
  match f.opcode with
  | 0x02#6 => some (.j f.target)
  | 0x03#6 => some (.jal f.target)
  | 0x04#6 => some (.beq f.rs f.rt f.imm)
  | 0x05#6 => some (.bne f.rs f.rt f.imm)
  | 0x06#6 => some (.blez f.rs f.rt f.imm)
  | 0x07#6 => some (.bgtz f.rs f.rt f.imm)
  | 0x08#6 => some (.addi f.rs f.rt f.imm)
  | 0x09#6 => some (.addiu f.rs f.rt f.imm)
  | 0x0A#6 => some (.slti f.rs f.rt f.imm)
  | 0x0B#6 => some (.sltiu f.rs f.rt f.imm)
  | 0x0C#6 => some (.andi f.rs f.rt f.imm)
  | 0x0D#6 => some (.ori f.rs f.rt f.imm)
  | 0x0E#6 => some (.xori f.rs f.rt f.imm)
  | 0x0F#6 => some (.lui f.rs f.rt f.imm)
  | 0x18#6 => some (.llo f.rs f.rt f.imm)
  | 0x19#6 => some (.lhi f.rs f.rt f.imm)
  | 0x1A#6 => some (.trap f.target)
  | 0x20#6 => some (.lb f.rs f.rt f.imm)
  | 0x21#6 => some (.lh f.rs f.rt f.imm)
  | 0x23#6 => some (.lw f.rs f.rt f.imm)
  | 0x24#6 => some (.lbu f.rs f.rt f.imm)
  | 0x25#6 => some (.lhu f.rs f.rt f.imm)
  | 0x28#6 => some (.sb f.rs f.rt f.imm)
  | 0x29#6 => some (.sh f.rs f.rt f.imm)
  | 0x2B#6 => some (.sw f.rs f.rt f.imm)
  | 0x30#6 => some (.ll f.rs f.rt f.imm)
  | 0x38#6 => some (.sc f.rs f.rt f.imm)
  | _ => none

/-- Steps 1 to 4 of the dispatch (41_dispatch.md R72), for a word that is not all zero. -/
def decodeFields (f : Fields) : Option Instr :=
  if f.opcode = 0x00#6 then decodeSpecial f
  else if f.opcode = 0x01#6 then decodeRegimm f
  else if f.opcode = 0x1C#6 then decodeSpecial2 f
  else decodeDirect f

/-- The instruction of a word, or the rejection by name (41_dispatch.md R72, R75): the all-zero test comes first. -/
def decodeWord (w : Word) : Except Reject Instr :=
  match fieldsOf w with
  | .error e => .error e
  | .ok f =>
    if w = 0x00000000#32 then .ok .nop
    else
      match decodeFields f with
      | some i => .ok i
      | none => .error (.unrecognized f.opcode f.funct)

/-- Decoding at the front of any byte stream: the instruction and the rest of the stream (20_memory.md R22, R24). -/
def decodeBytes (bs : List Byte) : Except Reject (Instr × List Byte) :=
  match bs with
  | [] => .error .endOfInput
  | b0 :: b1 :: b2 :: b3 :: rest =>
    match decodeWord (assembleWord b0 b1 b2 b3) with
    | .ok i => .ok (i, rest)
    | .error e => .error e
  | _ => .error .truncated

/-- The decoder on an instruction given as a number, bit 0 the least significant bit of the word (log entry 17). -/
def decodeTableWord (nbits w : Nat) : Option Instr :=
  match decodeBytes (wordBytes (BitVec.ofNat 32 (w % 2 ^ nbits))) with
  | .ok (i, _) => some i
  | .error _ => none

/-- The R layout: opcode, rs, rt, rd, shamt, funct (30_encoding.md R43). -/
def wordR (opcode : BitVec 6) (rs rt rd : RegIndex) (shamt : Shamt) (funct : BitVec 6) : Word :=
  opcode ++ rs ++ rt ++ rd ++ shamt ++ funct

/-- The I layout: opcode, rs, rt, imm (30_encoding.md R44). -/
def wordI (opcode : BitVec 6) (rs rt : RegIndex) (imm : Imm16) : Word :=
  opcode ++ rs ++ rt ++ imm

/-- The J layout: opcode, target (30_encoding.md R45). -/
def wordJ (opcode : BitVec 6) (target : Target26) : Word :=
  opcode ++ target

/-- The word of an instruction, by its row of the encoding maps (30_encoding.md R49 to R52, R55). -/
def encode (i : Instr) : Word :=
  match i with
  | .nop => 0x00000000#32
  | .sll rs rt rd shamt => wordR 0x00#6 rs rt rd shamt 0x00#6
  | .srl rs rt rd shamt => wordR 0x00#6 rs rt rd shamt 0x02#6
  | .sra rs rt rd shamt => wordR 0x00#6 rs rt rd shamt 0x03#6
  | .sllv rs rt rd shamt => wordR 0x00#6 rs rt rd shamt 0x04#6
  | .srlv rs rt rd shamt => wordR 0x00#6 rs rt rd shamt 0x06#6
  | .srav rs rt rd shamt => wordR 0x00#6 rs rt rd shamt 0x07#6
  | .jr rs rt rd shamt => wordR 0x00#6 rs rt rd shamt 0x08#6
  | .jalr rs rt rd shamt => wordR 0x00#6 rs rt rd shamt 0x09#6
  | .mfhi rs rt rd shamt => wordR 0x00#6 rs rt rd shamt 0x10#6
  | .mthi rs rt rd shamt => wordR 0x00#6 rs rt rd shamt 0x11#6
  | .mflo rs rt rd shamt => wordR 0x00#6 rs rt rd shamt 0x12#6
  | .mtlo rs rt rd shamt => wordR 0x00#6 rs rt rd shamt 0x13#6
  | .mult rs rt rd shamt => wordR 0x00#6 rs rt rd shamt 0x18#6
  | .multu rs rt rd shamt => wordR 0x00#6 rs rt rd shamt 0x19#6
  | .div rs rt rd shamt => wordR 0x00#6 rs rt rd shamt 0x1A#6
  | .divu rs rt rd shamt => wordR 0x00#6 rs rt rd shamt 0x1B#6
  | .add rs rt rd shamt => wordR 0x00#6 rs rt rd shamt 0x20#6
  | .addu rs rt rd shamt => wordR 0x00#6 rs rt rd shamt 0x21#6
  | .sub rs rt rd shamt => wordR 0x00#6 rs rt rd shamt 0x22#6
  | .subu rs rt rd shamt => wordR 0x00#6 rs rt rd shamt 0x23#6
  | .and rs rt rd shamt => wordR 0x00#6 rs rt rd shamt 0x24#6
  | .or rs rt rd shamt => wordR 0x00#6 rs rt rd shamt 0x25#6
  | .xor rs rt rd shamt => wordR 0x00#6 rs rt rd shamt 0x26#6
  | .nor rs rt rd shamt => wordR 0x00#6 rs rt rd shamt 0x27#6
  | .slt rs rt rd shamt => wordR 0x00#6 rs rt rd shamt 0x2A#6
  | .sltu rs rt rd shamt => wordR 0x00#6 rs rt rd shamt 0x2B#6
  | .bltz rs imm => wordI 0x01#6 rs 0x00#5 imm
  | .bgez rs imm => wordI 0x01#6 rs 0x01#5 imm
  | .bltzal rs imm => wordI 0x01#6 rs 0x10#5 imm
  | .bgezal rs imm => wordI 0x01#6 rs 0x11#5 imm
  | .tgei rs imm => wordI 0x01#6 rs 0x08#5 imm
  | .tgeiu rs imm => wordI 0x01#6 rs 0x09#5 imm
  | .tlti rs imm => wordI 0x01#6 rs 0x0A#5 imm
  | .tltiu rs imm => wordI 0x01#6 rs 0x0B#5 imm
  | .teqi rs imm => wordI 0x01#6 rs 0x0C#5 imm
  | .tnei rs imm => wordI 0x01#6 rs 0x0E#5 imm
  | .madd rs rt rd shamt => wordR 0x1C#6 rs rt rd shamt 0x00#6
  | .maddu rs rt rd shamt => wordR 0x1C#6 rs rt rd shamt 0x01#6
  | .mul rs rt rd shamt => wordR 0x1C#6 rs rt rd shamt 0x02#6
  | .msub rs rt rd shamt => wordR 0x1C#6 rs rt rd shamt 0x04#6
  | .msubu rs rt rd shamt => wordR 0x1C#6 rs rt rd shamt 0x05#6
  | .clz rs rt rd shamt => wordR 0x1C#6 rs rt rd shamt 0x20#6
  | .clo rs rt rd shamt => wordR 0x1C#6 rs rt rd shamt 0x21#6
  | .j target => wordJ 0x02#6 target
  | .jal target => wordJ 0x03#6 target
  | .beq rs rt imm => wordI 0x04#6 rs rt imm
  | .bne rs rt imm => wordI 0x05#6 rs rt imm
  | .blez rs rt imm => wordI 0x06#6 rs rt imm
  | .bgtz rs rt imm => wordI 0x07#6 rs rt imm
  | .addi rs rt imm => wordI 0x08#6 rs rt imm
  | .addiu rs rt imm => wordI 0x09#6 rs rt imm
  | .slti rs rt imm => wordI 0x0A#6 rs rt imm
  | .sltiu rs rt imm => wordI 0x0B#6 rs rt imm
  | .andi rs rt imm => wordI 0x0C#6 rs rt imm
  | .ori rs rt imm => wordI 0x0D#6 rs rt imm
  | .xori rs rt imm => wordI 0x0E#6 rs rt imm
  | .lui rs rt imm => wordI 0x0F#6 rs rt imm
  | .llo rs rt imm => wordI 0x18#6 rs rt imm
  | .lhi rs rt imm => wordI 0x19#6 rs rt imm
  | .trap target => wordJ 0x1A#6 target
  | .lb rs rt imm => wordI 0x20#6 rs rt imm
  | .lh rs rt imm => wordI 0x21#6 rs rt imm
  | .lw rs rt imm => wordI 0x23#6 rs rt imm
  | .lbu rs rt imm => wordI 0x24#6 rs rt imm
  | .lhu rs rt imm => wordI 0x25#6 rs rt imm
  | .sb rs rt imm => wordI 0x28#6 rs rt imm
  | .sh rs rt imm => wordI 0x29#6 rs rt imm
  | .sw rs rt imm => wordI 0x2B#6 rs rt imm
  | .ll rs rt imm => wordI 0x30#6 rs rt imm
  | .sc rs rt imm => wordI 0x38#6 rs rt imm

end Sys2Proof
end

