-- ==== Sys2Proof/Machine/State.lean ====
section
/-! DEFINITION. Results and errors, the state of the machine, and reset.
The block's own mutable state is `addr` and `seqState` (10_state.md R10). Beside them State holds the two streams it touches
(10_state.md R18) and the parameters of the run (00_scope.md R3). There is no register, flag, memory or mode to hold
(10_state.md R12, R15; 20_memory.md R27; 60_exceptions.md R409). -/

namespace Sys2Proof.Machine

/-- A DecodedInstruction (41_dispatch.md R70, R76). -/
structure DecodedInstruction where
  address     : Nat
  mnemonic    : Text
  format      : Format
  operandText : Text
  deriving DecidableEq, Repr

/-- A DecodeError: exactly three kinds (60_exceptions.md R400). -/
inductive DecodeError where
  /-- The word has no descriptor; its address, bits 31:26 and bits 5:0 (60_exceptions.md R401, 41_dispatch.md R75). -/
  | unrecognizedInstruction (address : Nat) (opcode function : BitVec 6)
  /-- The input ends inside a word; the address that word would have had (60_exceptions.md R402). -/
  | truncatedInstruction (address : Nat)
  /-- A field extraction outside its constraints; no payload; unreachable (60_exceptions.md R403). -/
  | fieldRangeViolation
  deriving DecidableEq, Repr

/-- One element of the emitted sequence (49_sequencer.md R340). -/
inductive DecodeResult where
  | ok (d : DecodedInstruction)
  | err (e : DecodeError)
  deriving DecidableEq, Repr

/-- `seq_state` (10_state.md R10). -/
inductive SeqState where
  | run
  | done
  | failed
  deriving DecidableEq, Repr

/-- Why the machine stops. -/
inductive Fault where
  /-- Raised by `step` in DONE: there is no step (49_sequencer.md R347, R351). Safe: the block has no further behaviour (log entry 6). -/
  | streamDone
  /-- Raised by `step` in FAILED: there is no step but a reset (49_sequencer.md R347). Safe (log entry 6). -/
  | streamFailed
  /-- Raised by `step` when the sink, with UNREC_POLICY = abort, has received an unrecognized word and asks for nothing more
  (49_sequencer.md R346, R348). Safe: no request, no step (log entry 8). -/
  | sinkStopped
  deriving DecidableEq, Repr

/-- What the machine refuses. -/
inductive Refusal where
  /-- Raised by no meaning: only an arm of `exec` without a meaning would raise it, and there is none. Safe. -/
  | notModelled (mnemonic : String)
  /-- Raised by `step` on a run whose last address does not fit AW bits (49_sequencer.md R350). Safe: "a model refuses such a run" (log entry 7). -/
  | addressOverflow
  /-- Raised by `raise` for a FieldRangeViolation: a precondition of `extract`, never broken (60_exceptions.md R403). Safe (log entry 9). -/
  | fieldRangeViolation
  deriving DecidableEq, Repr

/-- The state. -/
structure State where
  /-- The parameters, fixed for the run (00_scope.md R3, 10_state.md R15). -/
  params : Params
  /-- The address the next word will be given (10_state.md R10, R14). -/
  addr : Nat
  /-- The sequencer's state (10_state.md R10). -/
  seqState : SeqState
  /-- The bytes of the stream not yet taken, in stream order (20_memory.md R20, 10_state.md R19; log entry 2). -/
  input : List Byte
  /-- How many bytes have been taken as complete words (70_reset_and_hazards.md R451; log entry 5). -/
  consumed : Nat
  /-- The results emitted so far, oldest first, as the sink received them (20_memory.md R26, R28; log entry 3). -/
  output : List DecodeResult
  deriving DecidableEq, Repr

/-- What the sequencer finds at the front of the stream (49_sequencer.md R351): nothing, a short chunk, or a word. -/
inductive Fetched where
  | exhausted (s : State)
  | short (s : State)
  | word (w : Word) (s : State)
  deriving DecidableEq, Repr

/-- The state right after reset with parameters `p` and the stream `bytes` attached (70_reset_and_hazards.md R450, R451). -/
def State.fresh (p : Params) (bytes : List Byte) : State :=
  { params := p, addr := p.base, seqState := .run, input := bytes, consumed := 0, output := [] }

/-- Reset with the default parameters and nothing attached (70_reset_and_hazards.md R451; log entry 1). -/
def State.reset : State := State.fresh Config.defaults []

end Sys2Proof.Machine
end

