-- ==== Sys2Proof/Machine/Operands.lean ====
section
/-! DEFINITION. RegisterNames, the number-to-text functions, sign extension, the jump-target adjustment and the
OperandFormatter with its 16 operand classes (40_bitfield.md R62 to R64, 42_formatter.md R90 to R117). -/

namespace Sys2Proof.Machine

/-- The register-name ROM (42_formatter.md R90). -/
def regnameTable : Vector Text 32 :=
  #v["$zero", "$at", "$v0", "$v1", "$a0", "$a1", "$a2", "$a3",
     "$t0", "$t1", "$t2", "$t3", "$t4", "$t5", "$t6", "$t7",
     "$s0", "$s1", "$s2", "$s3", "$s4", "$s5", "$s6", "$s7",
     "$t8", "$t9", "$k0", "$k1", "$gp", "$sp", "$fp", "$ra"]

/-- `regname[i]`, total over the 5-bit index (42_formatter.md R90). -/
def regname (i : RegIndex) : Text := regnameTable.get i.toFin

/-- `sign_extend(value, width)`, an unbounded integer (40_bitfield.md R62). -/
def signExtend (value width : Nat) : Int :=
  if value.testBit (width - 1) then (value : Int) - 2 ^ width else value

/-- `simm = sext_16(imm)` (30_encoding.md R47, 40_bitfield.md R63). -/
def sext16 (imm : Imm16) : Int := signExtend imm.toNat 16

/-- `uimm = zext_16(imm)` (30_encoding.md R47). -/
def zext16 (imm : Imm16) : Nat := imm.toNat

/-- `jtarget(T)`: unshifted, or-ed with `0xFC000000` when its bit 25 is set, an unsigned value (40_bitfield.md R64, 90_conflicts.md C1). -/
def jtarget (target : Target26) : Word :=
  if target.getLsbD 25 then target.setWidth 32 ||| 0xFC000000#32 else target.setWidth 32

/-- `hexu(v)` (42_formatter.md R92). -/
def hexu (v : Nat) : Text := "0x" ++ String.ofList (Nat.toDigits 16 v)

/-- `hexs(v)` (42_formatter.md R91). -/
def hexs (v : Int) : Text := if v < 0 then "-" ++ hexu v.natAbs else hexu v.natAbs

/-- `dec(v)` (42_formatter.md R93). -/
def dec (v : Nat) : Text := String.ofList (Nat.toDigits 10 v)

/-- Class `NONE` (42_formatter.md R100). -/
def textNone : Text := ""

/-- Class `RD_RT_SA` (42_formatter.md R101). -/
def textRdRtSa (rd rt : RegIndex) (shamt : Shamt) : Text :=
  regname rd ++ ", " ++ regname rt ++ ", " ++ dec shamt.toNat

/-- Class `RD_RT_RS` (42_formatter.md R102, 90_conflicts.md C8). -/
def textRdRtRs (rd rt rs : RegIndex) : Text :=
  regname rd ++ ", " ++ regname rt ++ ", " ++ regname rs

/-- Class `RS` (42_formatter.md R103). -/
def textRs (rs : RegIndex) : Text := regname rs

/-- Class `RD_RS` (42_formatter.md R104). -/
def textRdRs (rd rs : RegIndex) : Text := regname rd ++ ", " ++ regname rs

/-- Class `RD` (42_formatter.md R105). -/
def textRd (rd : RegIndex) : Text := regname rd

/-- Class `RS_RT` (42_formatter.md R106). -/
def textRsRt (rs rt : RegIndex) : Text := regname rs ++ ", " ++ regname rt

/-- Class `RD_RS_RT` (42_formatter.md R107). -/
def textRdRsRt (rd rs rt : RegIndex) : Text :=
  regname rd ++ ", " ++ regname rs ++ ", " ++ regname rt

/-- Class `RS_SIMM` (42_formatter.md R108). -/
def textRsSimm (rs : RegIndex) (imm : Imm16) : Text :=
  regname rs ++ ", " ++ hexs (sext16 imm)

/-- Class `RS_RT_SIMM` (42_formatter.md R109). -/
def textRsRtSimm (rs rt : RegIndex) (imm : Imm16) : Text :=
  regname rs ++ ", " ++ regname rt ++ ", " ++ hexs (sext16 imm)

/-- Class `RT_RS_SIMM` (42_formatter.md R110). -/
def textRtRsSimm (rt rs : RegIndex) (imm : Imm16) : Text :=
  regname rt ++ ", " ++ regname rs ++ ", " ++ hexs (sext16 imm)

/-- Class `RT_RS_UIMM` (42_formatter.md R111). -/
def textRtRsUimm (rt rs : RegIndex) (imm : Imm16) : Text :=
  regname rt ++ ", " ++ regname rs ++ ", " ++ hexu (zext16 imm)

/-- Class `RT_UIMM` (42_formatter.md R112). -/
def textRtUimm (rt : RegIndex) (imm : Imm16) : Text :=
  regname rt ++ ", " ++ hexu (zext16 imm)

/-- Class `RT_OFF_BASE` (42_formatter.md R113). -/
def textRtOffBase (rt : RegIndex) (imm : Imm16) (rs : RegIndex) : Text :=
  regname rt ++ ", " ++ hexs (sext16 imm) ++ "(" ++ regname rs ++ ")"

/-- Class `TARGET` (42_formatter.md R114). -/
def textTarget (target : Target26) : Text := dec (jtarget target).toNat

/-- Class `CODE26` (42_formatter.md R115). -/
def textCode26 (target : Target26) : Text := hexu target.toNat

/-- `format_operands(class, fields)`: the class alone selects, not the format tag (42_formatter.md R95). -/
def formatOperands (cls : OperandClass) (f : Fields) : Text :=
  match cls with
  | .none => textNone
  | .rdRtSa => textRdRtSa f.rd f.rt f.shamt
  | .rdRtRs => textRdRtRs f.rd f.rt f.rs
  | .rs => textRs f.rs
  | .rdRs => textRdRs f.rd f.rs
  | .rd => textRd f.rd
  | .rsRt => textRsRt f.rs f.rt
  | .rdRsRt => textRdRsRt f.rd f.rs f.rt
  | .rsSimm => textRsSimm f.rs f.imm
  | .rsRtSimm => textRsRtSimm f.rs f.rt f.imm
  | .rtRsSimm => textRtRsSimm f.rt f.rs f.imm
  | .rtRsUimm => textRtRsUimm f.rt f.rs f.imm
  | .rtUimm => textRtUimm f.rt f.imm
  | .rtOffBase => textRtOffBase f.rt f.imm f.rs
  | .target => textTarget f.target
  | .code26 => textCode26 f.target

/-- The text line of a decoded instruction (42_formatter.md R94, 30_encoding.md R57). -/
def DecodedInstruction.line (d : DecodedInstruction) : Text :=
  if d.operandText = "" then d.mnemonic else d.mnemonic ++ " " ++ d.operandText

end Sys2Proof.Machine
end

