-- ==== Sys2Proof/Machine/Ops.lean ====
section
/-! DEFINITION. The named operations of the sequencer: taking bytes, emitting a result, advancing the address, completing an
instruction, raising an error, the sink's request and the address contract (49_sequencer.md, 60_exceptions.md). -/

namespace Sys2Proof.Machine

/-- Hand one result to the sink (49_sequencer.md R349, 20_memory.md R28). -/
def State.emit (r : DecodeResult) (s : State) : State :=
  { s with output := s.output ++ [r] }

/-- `addr <- addr + 4`, after a complete word and only then (49_sequencer.md R342). -/
def State.advance (s : State) : State :=
  { s with addr := s.addr + 4 }

/-- `seq_state <- DONE` (49_sequencer.md R344). -/
def State.finish (s : State) : State :=
  { s with seqState := .done }

/-- `seq_state <- FAILED` (49_sequencer.md R345). -/
def State.fail (s : State) : State :=
  { s with seqState := .failed }

/-- The whole effect of a recognised instruction: emit `Ok` with the present address, then advance (41_dispatch.md R76,
49_sequencer.md R351). The decoded instruction is not executed (20_memory.md R27, 46_jump_branch.md R280). -/
def complete (mnemonic : Text) (format : Format) (operandText : Text) (s : State) : Host.Outcome State Fault Refusal :=
  .next (s.emit (.ok { address := s.addr, mnemonic, format, operandText })).advance

/-- Taking an exception: what each error does to the state (60_exceptions.md R407). An unrecognized word is emitted and
passed over; a truncated stream fails; a field-range violation is refused, and no step reaches it (R403). There is no
saved register, no vector and no return to model beside it (60_exceptions.md R407, R408). -/
def raise (e : DecodeError) (s : State) : Host.Outcome State Fault Refusal :=
  match e with
  | .unrecognizedInstruction _ _ _ => .next (s.emit (.err e)).advance
  | .truncatedInstruction _ => .next (s.emit (.err e)).fail
  | .fieldRangeViolation => .refused .fieldRangeViolation

/-- The error a rejection of the decoder stands for, at the state's address (60_exceptions.md R400 to R403). -/
def reject (e : Reject) (s : State) : Host.Outcome State Fault Refusal :=
  match e with
  | .unrecognized opcode function => raise (.unrecognizedInstruction s.addr opcode function) s
  | .endOfInput => .next s.finish
  | .truncated => raise (.truncatedInstruction s.addr) s
  | .fieldRange => raise .fieldRangeViolation s

/-- `NextBytes(4)` and the word made of it (49_sequencer.md R351, R341). A short chunk is removed from the stream but is no
complete word, so it is not counted (log entry 5). -/
def fetch (s : State) : Fetched :=
  match s.input with
  | [] => .exhausted s
  | b0 :: b1 :: b2 :: b3 :: rest =>
    .word (assembleWord b0 b1 b2 b3) { s with input := rest, consumed := s.consumed + 4 }
  | _ => .short { s with input := [] }

/-- The sink asks for the next result, unless its policy is abort and the last result it received is an unrecognized word
(49_sequencer.md R346, R348; 95_test_vectors.md P2; log entry 8). -/
def State.sinkAsks (s : State) : Bool :=
  match s.params.unrecPolicy, s.output.getLast? with
  | .aborts, some (.err (.unrecognizedInstruction _ _ _)) => false
  | _, _ => true

/-- The address contract: the last value `addr` will take, `addr + 4 * floor(remaining / 4)`, fits in AW bits
(49_sequencer.md R350, 90_conflicts.md C10; log entry 7). -/
def State.inContract (s : State) : Bool :=
  match s.params.aw with
  | none => true
  | some aw => decide (s.addr + 4 * (s.input.length / 4) < 2 ^ aw)

/-- Reset by the caller: whatever the state, a new stream and new parameters give the fresh state; the two tables are
constants and stay (70_reset_and_hazards.md R450, R451, R453). -/
def State.openStream (p : Params) (bytes : List Byte) (_s : State) : State :=
  State.fresh p bytes

end Sys2Proof.Machine
end

