-- ==== Sys2Proof/Machine/Immediate.lean ====
section
/-! DEFINITION. The meanings of immediate arithmetic, logical, load-immediate and trap instructions (47_immediate.md): each emits its decoded instruction and advances `addr`.
No arithmetic is done and `trap` raises nothing (47_immediate.md R300, 60_exceptions.md R413). -/

namespace Sys2Proof.Machine

/-- `addi` (47_immediate.md R301; class 42_formatter.md R110). -/
def execAddi (rt rs : RegIndex) (imm : Imm16) (s : State) : Host.Outcome State Fault Refusal :=
  complete "addi" .I (textRtRsSimm rt rs imm) s

/-- `addiu` (47_immediate.md R302; class 42_formatter.md R110). -/
def execAddiu (rt rs : RegIndex) (imm : Imm16) (s : State) : Host.Outcome State Fault Refusal :=
  complete "addiu" .I (textRtRsSimm rt rs imm) s

/-- `slti` (47_immediate.md R303; class 42_formatter.md R110). -/
def execSlti (rt rs : RegIndex) (imm : Imm16) (s : State) : Host.Outcome State Fault Refusal :=
  complete "slti" .I (textRtRsSimm rt rs imm) s

/-- `sltiu` (47_immediate.md R304; class 42_formatter.md R110). -/
def execSltiu (rt rs : RegIndex) (imm : Imm16) (s : State) : Host.Outcome State Fault Refusal :=
  complete "sltiu" .I (textRtRsSimm rt rs imm) s

/-- `andi` (47_immediate.md R305; class 42_formatter.md R111). -/
def execAndi (rt rs : RegIndex) (imm : Imm16) (s : State) : Host.Outcome State Fault Refusal :=
  complete "andi" .I (textRtRsUimm rt rs imm) s

/-- `ori` (47_immediate.md R306; class 42_formatter.md R111). -/
def execOri (rt rs : RegIndex) (imm : Imm16) (s : State) : Host.Outcome State Fault Refusal :=
  complete "ori" .I (textRtRsUimm rt rs imm) s

/-- `xori` (47_immediate.md R307; class 42_formatter.md R111). -/
def execXori (rt rs : RegIndex) (imm : Imm16) (s : State) : Host.Outcome State Fault Refusal :=
  complete "xori" .I (textRtRsUimm rt rs imm) s

/-- `lui` (47_immediate.md R308; class 42_formatter.md R112). -/
def execLui (rt : RegIndex) (imm : Imm16) (s : State) : Host.Outcome State Fault Refusal :=
  complete "lui" .I (textRtUimm rt imm) s

/-- `llo` (47_immediate.md R309; class 42_formatter.md R112). -/
def execLlo (rt : RegIndex) (imm : Imm16) (s : State) : Host.Outcome State Fault Refusal :=
  complete "llo" .I (textRtUimm rt imm) s

/-- `lhi` (47_immediate.md R310; class 42_formatter.md R112). -/
def execLhi (rt : RegIndex) (imm : Imm16) (s : State) : Host.Outcome State Fault Refusal :=
  complete "lhi" .I (textRtUimm rt imm) s

/-- `trap` (47_immediate.md R311; class 42_formatter.md R115). -/
def execTrap (target : Target26) (s : State) : Host.Outcome State Fault Refusal :=
  complete "trap" .J (textCode26 target) s

end Sys2Proof.Machine
end

