-- ==== Sys2Proof/Machine/JumpBranch.lean ====
section
/-! DEFINITION. The meanings of jumps and branches (46_jump_branch.md): each emits its decoded instruction and advances `addr`.
No transfer of control is performed: the next word is the next four bytes (46_jump_branch.md R280). -/

namespace Sys2Proof.Machine

/-- `j` (46_jump_branch.md R281; class 42_formatter.md R114). -/
def execJ (target : Target26) (s : State) : Host.Outcome State Fault Refusal :=
  complete "j" .J (textTarget target) s

/-- `jal` (46_jump_branch.md R282; class 42_formatter.md R114). -/
def execJal (target : Target26) (s : State) : Host.Outcome State Fault Refusal :=
  complete "jal" .J (textTarget target) s

/-- `beq` (46_jump_branch.md R283; class 42_formatter.md R109). -/
def execBeq (rs rt : RegIndex) (imm : Imm16) (s : State) : Host.Outcome State Fault Refusal :=
  complete "beq" .I (textRsRtSimm rs rt imm) s

/-- `bne` (46_jump_branch.md R284; class 42_formatter.md R109). -/
def execBne (rs rt : RegIndex) (imm : Imm16) (s : State) : Host.Outcome State Fault Refusal :=
  complete "bne" .I (textRsRtSimm rs rt imm) s

/-- `blez` (46_jump_branch.md R285; class 42_formatter.md R108). -/
def execBlez (rs : RegIndex) (imm : Imm16) (s : State) : Host.Outcome State Fault Refusal :=
  complete "blez" .I (textRsSimm rs imm) s

/-- `bgtz` (46_jump_branch.md R286; class 42_formatter.md R108). -/
def execBgtz (rs : RegIndex) (imm : Imm16) (s : State) : Host.Outcome State Fault Refusal :=
  complete "bgtz" .I (textRsSimm rs imm) s

end Sys2Proof.Machine
end

