-- ==== Sys2Proof/Machine/LoadStore.lean ====
section
/-! DEFINITION. The meanings of loads, stores, `ll` and `sc` (48_loadstore.md): each emits its decoded instruction and advances `addr`.
No address is computed, no memory is touched, no reservation is set or tested (48_loadstore.md R320, 20_memory.md R27). -/

namespace Sys2Proof.Machine

/-- `lb` (48_loadstore.md R321; class 42_formatter.md R113). -/
def execLb (rt : RegIndex) (imm : Imm16) (rs : RegIndex) (s : State) : Host.Outcome State Fault Refusal :=
  complete "lb" .I (textRtOffBase rt imm rs) s

/-- `lh` (48_loadstore.md R322; class 42_formatter.md R113). -/
def execLh (rt : RegIndex) (imm : Imm16) (rs : RegIndex) (s : State) : Host.Outcome State Fault Refusal :=
  complete "lh" .I (textRtOffBase rt imm rs) s

/-- `lw` (48_loadstore.md R323; class 42_formatter.md R113). -/
def execLw (rt : RegIndex) (imm : Imm16) (rs : RegIndex) (s : State) : Host.Outcome State Fault Refusal :=
  complete "lw" .I (textRtOffBase rt imm rs) s

/-- `lbu` (48_loadstore.md R324; class 42_formatter.md R113). -/
def execLbu (rt : RegIndex) (imm : Imm16) (rs : RegIndex) (s : State) : Host.Outcome State Fault Refusal :=
  complete "lbu" .I (textRtOffBase rt imm rs) s

/-- `lhu` (48_loadstore.md R325; class 42_formatter.md R113). -/
def execLhu (rt : RegIndex) (imm : Imm16) (rs : RegIndex) (s : State) : Host.Outcome State Fault Refusal :=
  complete "lhu" .I (textRtOffBase rt imm rs) s

/-- `sb` (48_loadstore.md R326; class 42_formatter.md R113). -/
def execSb (rt : RegIndex) (imm : Imm16) (rs : RegIndex) (s : State) : Host.Outcome State Fault Refusal :=
  complete "sb" .I (textRtOffBase rt imm rs) s

/-- `sh` (48_loadstore.md R327; class 42_formatter.md R113). -/
def execSh (rt : RegIndex) (imm : Imm16) (rs : RegIndex) (s : State) : Host.Outcome State Fault Refusal :=
  complete "sh" .I (textRtOffBase rt imm rs) s

/-- `sw` (48_loadstore.md R328; class 42_formatter.md R113). -/
def execSw (rt : RegIndex) (imm : Imm16) (rs : RegIndex) (s : State) : Host.Outcome State Fault Refusal :=
  complete "sw" .I (textRtOffBase rt imm rs) s

/-- `ll` (48_loadstore.md R329; class 42_formatter.md R113). -/
def execLl (rt : RegIndex) (imm : Imm16) (rs : RegIndex) (s : State) : Host.Outcome State Fault Refusal :=
  complete "ll" .I (textRtOffBase rt imm rs) s

/-- `sc` (48_loadstore.md R330; class 42_formatter.md R113). -/
def execSc (rt : RegIndex) (imm : Imm16) (rs : RegIndex) (s : State) : Host.Outcome State Fault Refusal :=
  complete "sc" .I (textRtOffBase rt imm rs) s

end Sys2Proof.Machine
end

