-- ==== Sys2Proof/Machine/Regimm.lean ====
section
/-! DEFINITION. The meanings of the REGIMM family (44_regimm.md): each emits its decoded instruction and advances `addr`.
The branches are not taken and the traps are not raised (44_regimm.md R240, 60_exceptions.md R413). -/

namespace Sys2Proof.Machine

/-- `bltz` (44_regimm.md R241; class 42_formatter.md R108). -/
def execBltz (rs : RegIndex) (imm : Imm16) (s : State) : Host.Outcome State Fault Refusal :=
  complete "bltz" .I (textRsSimm rs imm) s

/-- `bgez` (44_regimm.md R242; class 42_formatter.md R108). -/
def execBgez (rs : RegIndex) (imm : Imm16) (s : State) : Host.Outcome State Fault Refusal :=
  complete "bgez" .I (textRsSimm rs imm) s

/-- `bltzal` (44_regimm.md R243; class 42_formatter.md R108). -/
def execBltzal (rs : RegIndex) (imm : Imm16) (s : State) : Host.Outcome State Fault Refusal :=
  complete "bltzal" .I (textRsSimm rs imm) s

/-- `bgezal` (44_regimm.md R244; class 42_formatter.md R108). -/
def execBgezal (rs : RegIndex) (imm : Imm16) (s : State) : Host.Outcome State Fault Refusal :=
  complete "bgezal" .I (textRsSimm rs imm) s

/-- `tgei` (44_regimm.md R245; class 42_formatter.md R108). -/
def execTgei (rs : RegIndex) (imm : Imm16) (s : State) : Host.Outcome State Fault Refusal :=
  complete "tgei" .I (textRsSimm rs imm) s

/-- `tgeiu` (44_regimm.md R246; class 42_formatter.md R108). -/
def execTgeiu (rs : RegIndex) (imm : Imm16) (s : State) : Host.Outcome State Fault Refusal :=
  complete "tgeiu" .I (textRsSimm rs imm) s

/-- `tlti` (44_regimm.md R247; class 42_formatter.md R108). -/
def execTlti (rs : RegIndex) (imm : Imm16) (s : State) : Host.Outcome State Fault Refusal :=
  complete "tlti" .I (textRsSimm rs imm) s

/-- `tltiu` (44_regimm.md R248; class 42_formatter.md R108). -/
def execTltiu (rs : RegIndex) (imm : Imm16) (s : State) : Host.Outcome State Fault Refusal :=
  complete "tltiu" .I (textRsSimm rs imm) s

/-- `teqi` (44_regimm.md R249; class 42_formatter.md R108). -/
def execTeqi (rs : RegIndex) (imm : Imm16) (s : State) : Host.Outcome State Fault Refusal :=
  complete "teqi" .I (textRsSimm rs imm) s

/-- `tnei` (44_regimm.md R250; class 42_formatter.md R108). -/
def execTnei (rs : RegIndex) (imm : Imm16) (s : State) : Host.Outcome State Fault Refusal :=
  complete "tnei" .I (textRsSimm rs imm) s

end Sys2Proof.Machine
end

