-- ==== Sys2Proof/Machine/Special.lean ====
section
/-! DEFINITION. The meanings of `nop` and the SPECIAL family (43_special.md): each emits its decoded instruction and advances `addr`.
Nothing is executed: no register is read or written, and a decoded register jump is not followed (43_special.md R200, 46_jump_branch.md R280). -/

namespace Sys2Proof.Machine

/-- `nop` (43_special.md R201; class 42_formatter.md R100). -/
def execNop (s : State) : Host.Outcome State Fault Refusal :=
  complete "nop" .R textNone s

/-- `sll` (43_special.md R202; class 42_formatter.md R101). -/
def execSll (rd rt : RegIndex) (shamt : Shamt) (s : State) : Host.Outcome State Fault Refusal :=
  complete "sll" .R (textRdRtSa rd rt shamt) s

/-- `srl` (43_special.md R203; class 42_formatter.md R101). -/
def execSrl (rd rt : RegIndex) (shamt : Shamt) (s : State) : Host.Outcome State Fault Refusal :=
  complete "srl" .R (textRdRtSa rd rt shamt) s

/-- `sra` (43_special.md R204; class 42_formatter.md R101). -/
def execSra (rd rt : RegIndex) (shamt : Shamt) (s : State) : Host.Outcome State Fault Refusal :=
  complete "sra" .R (textRdRtSa rd rt shamt) s

/-- `sllv` (43_special.md R205; class 42_formatter.md R102). -/
def execSllv (rd rt rs : RegIndex) (s : State) : Host.Outcome State Fault Refusal :=
  complete "sllv" .R (textRdRtRs rd rt rs) s

/-- `srlv` (43_special.md R206; class 42_formatter.md R102). -/
def execSrlv (rd rt rs : RegIndex) (s : State) : Host.Outcome State Fault Refusal :=
  complete "srlv" .R (textRdRtRs rd rt rs) s

/-- `srav` (43_special.md R207; class 42_formatter.md R102). -/
def execSrav (rd rt rs : RegIndex) (s : State) : Host.Outcome State Fault Refusal :=
  complete "srav" .R (textRdRtRs rd rt rs) s

/-- `jr` (43_special.md R208; class 42_formatter.md R103). -/
def execJr (rs : RegIndex) (s : State) : Host.Outcome State Fault Refusal :=
  complete "jr" .R (textRs rs) s

/-- `jalr` (43_special.md R209; class 42_formatter.md R104). -/
def execJalr (rd rs : RegIndex) (s : State) : Host.Outcome State Fault Refusal :=
  complete "jalr" .R (textRdRs rd rs) s

/-- `mfhi` (43_special.md R210; class 42_formatter.md R105). -/
def execMfhi (rd : RegIndex) (s : State) : Host.Outcome State Fault Refusal :=
  complete "mfhi" .R (textRd rd) s

/-- `mthi` (43_special.md R211; class 42_formatter.md R103). -/
def execMthi (rs : RegIndex) (s : State) : Host.Outcome State Fault Refusal :=
  complete "mthi" .R (textRs rs) s

/-- `mflo` (43_special.md R212; class 42_formatter.md R105). -/
def execMflo (rd : RegIndex) (s : State) : Host.Outcome State Fault Refusal :=
  complete "mflo" .R (textRd rd) s

/-- `mtlo` (43_special.md R213; class 42_formatter.md R103). -/
def execMtlo (rs : RegIndex) (s : State) : Host.Outcome State Fault Refusal :=
  complete "mtlo" .R (textRs rs) s

/-- `mult` (43_special.md R214; class 42_formatter.md R106). -/
def execMult (rs rt : RegIndex) (s : State) : Host.Outcome State Fault Refusal :=
  complete "mult" .R (textRsRt rs rt) s

/-- `multu` (43_special.md R215; class 42_formatter.md R106). -/
def execMultu (rs rt : RegIndex) (s : State) : Host.Outcome State Fault Refusal :=
  complete "multu" .R (textRsRt rs rt) s

/-- `div` (43_special.md R216; class 42_formatter.md R106). -/
def execDiv (rs rt : RegIndex) (s : State) : Host.Outcome State Fault Refusal :=
  complete "div" .R (textRsRt rs rt) s

/-- `divu` (43_special.md R217; class 42_formatter.md R106). -/
def execDivu (rs rt : RegIndex) (s : State) : Host.Outcome State Fault Refusal :=
  complete "divu" .R (textRsRt rs rt) s

/-- `add` (43_special.md R218; class 42_formatter.md R107). -/
def execAdd (rd rs rt : RegIndex) (s : State) : Host.Outcome State Fault Refusal :=
  complete "add" .R (textRdRsRt rd rs rt) s

/-- `addu` (43_special.md R219; class 42_formatter.md R107). -/
def execAddu (rd rs rt : RegIndex) (s : State) : Host.Outcome State Fault Refusal :=
  complete "addu" .R (textRdRsRt rd rs rt) s

/-- `sub` (43_special.md R220; class 42_formatter.md R107). -/
def execSub (rd rs rt : RegIndex) (s : State) : Host.Outcome State Fault Refusal :=
  complete "sub" .R (textRdRsRt rd rs rt) s

/-- `subu` (43_special.md R221; class 42_formatter.md R107). -/
def execSubu (rd rs rt : RegIndex) (s : State) : Host.Outcome State Fault Refusal :=
  complete "subu" .R (textRdRsRt rd rs rt) s

/-- `and` (43_special.md R222; class 42_formatter.md R107). -/
def execAnd (rd rs rt : RegIndex) (s : State) : Host.Outcome State Fault Refusal :=
  complete "and" .R (textRdRsRt rd rs rt) s

/-- `or` (43_special.md R223; class 42_formatter.md R107). -/
def execOr (rd rs rt : RegIndex) (s : State) : Host.Outcome State Fault Refusal :=
  complete "or" .R (textRdRsRt rd rs rt) s

/-- `xor` (43_special.md R224; class 42_formatter.md R107). -/
def execXor (rd rs rt : RegIndex) (s : State) : Host.Outcome State Fault Refusal :=
  complete "xor" .R (textRdRsRt rd rs rt) s

/-- `nor` (43_special.md R225; class 42_formatter.md R107). -/
def execNor (rd rs rt : RegIndex) (s : State) : Host.Outcome State Fault Refusal :=
  complete "nor" .R (textRdRsRt rd rs rt) s

/-- `slt` (43_special.md R226; class 42_formatter.md R107). -/
def execSlt (rd rs rt : RegIndex) (s : State) : Host.Outcome State Fault Refusal :=
  complete "slt" .R (textRdRsRt rd rs rt) s

/-- `sltu` (43_special.md R227; class 42_formatter.md R107). -/
def execSltu (rd rs rt : RegIndex) (s : State) : Host.Outcome State Fault Refusal :=
  complete "sltu" .R (textRdRsRt rd rs rt) s

end Sys2Proof.Machine
end

