-- ==== Sys2Proof/Machine/Special2.lean ====
section
/-! DEFINITION. The meanings of the SPECIAL2 family (45_special2.md): each emits its decoded instruction and advances `addr`.
Nothing is accumulated or counted: the decoded instruction is not executed (45_special2.md R260). -/

namespace Sys2Proof.Machine

/-- `madd` (45_special2.md R261; class 42_formatter.md R106). -/
def execMadd (rs rt : RegIndex) (s : State) : Host.Outcome State Fault Refusal :=
  complete "madd" .R (textRsRt rs rt) s

/-- `maddu` (45_special2.md R262; class 42_formatter.md R106). -/
def execMaddu (rs rt : RegIndex) (s : State) : Host.Outcome State Fault Refusal :=
  complete "maddu" .R (textRsRt rs rt) s

/-- `mul` (45_special2.md R263; class 42_formatter.md R107). -/
def execMul (rd rs rt : RegIndex) (s : State) : Host.Outcome State Fault Refusal :=
  complete "mul" .R (textRdRsRt rd rs rt) s

/-- `msub` (45_special2.md R264; class 42_formatter.md R106). -/
def execMsub (rs rt : RegIndex) (s : State) : Host.Outcome State Fault Refusal :=
  complete "msub" .R (textRsRt rs rt) s

/-- `msubu` (45_special2.md R265; class 42_formatter.md R106). -/
def execMsubu (rs rt : RegIndex) (s : State) : Host.Outcome State Fault Refusal :=
  complete "msubu" .R (textRsRt rs rt) s

/-- `clz` (45_special2.md R266; class 42_formatter.md R104). -/
def execClz (rd rs : RegIndex) (s : State) : Host.Outcome State Fault Refusal :=
  complete "clz" .R (textRdRs rd rs) s

/-- `clo` (45_special2.md R267; class 42_formatter.md R104). -/
def execClo (rd rs : RegIndex) (s : State) : Host.Outcome State Fault Refusal :=
  complete "clo" .R (textRdRs rd rs) s

end Sys2Proof.Machine
end

