-- ==== Sys2Proof/Machine/Dispatch.lean ====
section
/-! DEFINITION. One arm per instruction: its meaning. -/

namespace Sys2Proof.Machine

def exec (i : Instr) (s : State) : Host.Outcome State Fault Refusal :=
  match i with
  | .nop => Sys2Proof.Machine.execNop s
  | .sll _ rt rd shamt => Sys2Proof.Machine.execSll rd rt shamt s
  | .srl _ rt rd shamt => Sys2Proof.Machine.execSrl rd rt shamt s
  | .sra _ rt rd shamt => Sys2Proof.Machine.execSra rd rt shamt s
  | .sllv rs rt rd _ => Sys2Proof.Machine.execSllv rd rt rs s
  | .srlv rs rt rd _ => Sys2Proof.Machine.execSrlv rd rt rs s
  | .srav rs rt rd _ => Sys2Proof.Machine.execSrav rd rt rs s
  | .jr rs _ _ _ => Sys2Proof.Machine.execJr rs s
  | .jalr rs _ rd _ => Sys2Proof.Machine.execJalr rd rs s
  | .mfhi _ _ rd _ => Sys2Proof.Machine.execMfhi rd s
  | .mthi rs _ _ _ => Sys2Proof.Machine.execMthi rs s
  | .mflo _ _ rd _ => Sys2Proof.Machine.execMflo rd s
  | .mtlo rs _ _ _ => Sys2Proof.Machine.execMtlo rs s
  | .mult rs rt _ _ => Sys2Proof.Machine.execMult rs rt s
  | .multu rs rt _ _ => Sys2Proof.Machine.execMultu rs rt s
  | .div rs rt _ _ => Sys2Proof.Machine.execDiv rs rt s
  | .divu rs rt _ _ => Sys2Proof.Machine.execDivu rs rt s
  | .add rs rt rd _ => Sys2Proof.Machine.execAdd rd rs rt s
  | .addu rs rt rd _ => Sys2Proof.Machine.execAddu rd rs rt s
  | .sub rs rt rd _ => Sys2Proof.Machine.execSub rd rs rt s
  | .subu rs rt rd _ => Sys2Proof.Machine.execSubu rd rs rt s
  | .and rs rt rd _ => Sys2Proof.Machine.execAnd rd rs rt s
  | .or rs rt rd _ => Sys2Proof.Machine.execOr rd rs rt s
  | .xor rs rt rd _ => Sys2Proof.Machine.execXor rd rs rt s
  | .nor rs rt rd _ => Sys2Proof.Machine.execNor rd rs rt s
  | .slt rs rt rd _ => Sys2Proof.Machine.execSlt rd rs rt s
  | .sltu rs rt rd _ => Sys2Proof.Machine.execSltu rd rs rt s
  | .bltz rs imm => Sys2Proof.Machine.execBltz rs imm s
  | .bgez rs imm => Sys2Proof.Machine.execBgez rs imm s
  | .bltzal rs imm => Sys2Proof.Machine.execBltzal rs imm s
  | .bgezal rs imm => Sys2Proof.Machine.execBgezal rs imm s
  | .tgei rs imm => Sys2Proof.Machine.execTgei rs imm s
  | .tgeiu rs imm => Sys2Proof.Machine.execTgeiu rs imm s
  | .tlti rs imm => Sys2Proof.Machine.execTlti rs imm s
  | .tltiu rs imm => Sys2Proof.Machine.execTltiu rs imm s
  | .teqi rs imm => Sys2Proof.Machine.execTeqi rs imm s
  | .tnei rs imm => Sys2Proof.Machine.execTnei rs imm s
  | .madd rs rt _ _ => Sys2Proof.Machine.execMadd rs rt s
  | .maddu rs rt _ _ => Sys2Proof.Machine.execMaddu rs rt s
  | .mul rs rt rd _ => Sys2Proof.Machine.execMul rd rs rt s
  | .msub rs rt _ _ => Sys2Proof.Machine.execMsub rs rt s
  | .msubu rs rt _ _ => Sys2Proof.Machine.execMsubu rs rt s
  | .clz rs _ rd _ => Sys2Proof.Machine.execClz rd rs s
  | .clo rs _ rd _ => Sys2Proof.Machine.execClo rd rs s
  | .j target => Sys2Proof.Machine.execJ target s
  | .jal target => Sys2Proof.Machine.execJal target s
  | .beq rs rt imm => Sys2Proof.Machine.execBeq rs rt imm s
  | .bne rs rt imm => Sys2Proof.Machine.execBne rs rt imm s
  | .blez rs _ imm => Sys2Proof.Machine.execBlez rs imm s
  | .bgtz rs _ imm => Sys2Proof.Machine.execBgtz rs imm s
  | .addi rs rt imm => Sys2Proof.Machine.execAddi rt rs imm s
  | .addiu rs rt imm => Sys2Proof.Machine.execAddiu rt rs imm s
  | .slti rs rt imm => Sys2Proof.Machine.execSlti rt rs imm s
  | .sltiu rs rt imm => Sys2Proof.Machine.execSltiu rt rs imm s
  | .andi rs rt imm => Sys2Proof.Machine.execAndi rt rs imm s
  | .ori rs rt imm => Sys2Proof.Machine.execOri rt rs imm s
  | .xori rs rt imm => Sys2Proof.Machine.execXori rt rs imm s
  | .lui _ rt imm => Sys2Proof.Machine.execLui rt imm s
  | .llo _ rt imm => Sys2Proof.Machine.execLlo rt imm s
  | .lhi _ rt imm => Sys2Proof.Machine.execLhi rt imm s
  | .trap target => Sys2Proof.Machine.execTrap target s
  | .lb rs rt imm => Sys2Proof.Machine.execLb rt imm rs s
  | .lh rs rt imm => Sys2Proof.Machine.execLh rt imm rs s
  | .lw rs rt imm => Sys2Proof.Machine.execLw rt imm rs s
  | .lbu rs rt imm => Sys2Proof.Machine.execLbu rt imm rs s
  | .lhu rs rt imm => Sys2Proof.Machine.execLhu rt imm rs s
  | .sb rs rt imm => Sys2Proof.Machine.execSb rt imm rs s
  | .sh rs rt imm => Sys2Proof.Machine.execSh rt imm rs s
  | .sw rs rt imm => Sys2Proof.Machine.execSw rt imm rs s
  | .ll rs rt imm => Sys2Proof.Machine.execLl rt imm rs s
  | .sc rs rt imm => Sys2Proof.Machine.execSc rt imm rs s

end Sys2Proof.Machine
end

