-- ==== Sys2Proof/Machine/Step.lean ====
section
/-! DEFINITION. One step: the sink's request for the next result, served (49_sequencer.md R351). -/

namespace Sys2Proof.Machine

/-- Serve a request in RUN: take the chunk, and end, fail, reject or run what it decodes to (49_sequencer.md R351). -/
def serve (s : State) : Host.Outcome State Fault Refusal :=
  match fetch s with
  | .exhausted t => reject .endOfInput t
  | .short t => reject .truncated t
  | .word w t =>
    match decodeWord w with
    | .ok i => exec i t
    | .error e => reject e t

/-- One step of the machine. In DONE and FAILED there is none (49_sequencer.md R347); a sink that has stopped asks for none
(R346, R348); a run outside its address width is refused (R350). -/
def step (s : State) : Host.Outcome State Fault Refusal :=
  match s.seqState with
  | .done => .fault .streamDone
  | .failed => .fault .streamFailed
  | .run =>
    if s.sinkAsks = true then
      if s.inContract = true then serve s else .refused .addressOverflow
    else .fault .sinkStopped

/-- The instruction with bits `w` placed where `step` takes its next word: the next four bytes of the stream. An ended
sequencer is put back in RUN, which the fetch needs (log entry 15). -/
def State.withFetchWord (s : State) (nbits w : Nat) : State :=
  { s with
    seqState := .run
    input := wordBytes (BitVec.ofNat 32 (w % 2 ^ nbits)) ++ s.input.drop 4 }

end Sys2Proof.Machine
end

