-- ==== Sys2Proof/Machine/OpcodeTable.lean ====
section
/-! DEFINITION. The OpcodeTable component: four total functions from the selector ranges to an optional descriptor, every
reserved slot a visible `none` (41_dispatch.md R73, R78; contents 30_encoding.md R49 to R52, classes 42_formatter.md R100
to R115). The tables are constants: nothing writes them (10_state.md R11). -/

namespace Sys2Proof.Machine

/-- `SPECIAL_TABLE[funct]` (30_encoding.md R50). -/
def specialTable (k : BitVec 6) : Option Descriptor :=
  match k with
  | 0x00#6 => some ⟨"sll", .R, .rdRtSa⟩
  | 0x02#6 => some ⟨"srl", .R, .rdRtSa⟩
  | 0x03#6 => some ⟨"sra", .R, .rdRtSa⟩
  | 0x04#6 => some ⟨"sllv", .R, .rdRtRs⟩
  | 0x06#6 => some ⟨"srlv", .R, .rdRtRs⟩
  | 0x07#6 => some ⟨"srav", .R, .rdRtRs⟩
  | 0x08#6 => some ⟨"jr", .R, .rs⟩
  | 0x09#6 => some ⟨"jalr", .R, .rdRs⟩
  | 0x10#6 => some ⟨"mfhi", .R, .rd⟩
  | 0x11#6 => some ⟨"mthi", .R, .rs⟩
  | 0x12#6 => some ⟨"mflo", .R, .rd⟩
  | 0x13#6 => some ⟨"mtlo", .R, .rs⟩
  | 0x18#6 => some ⟨"mult", .R, .rsRt⟩
  | 0x19#6 => some ⟨"multu", .R, .rsRt⟩
  | 0x1A#6 => some ⟨"div", .R, .rsRt⟩
  | 0x1B#6 => some ⟨"divu", .R, .rsRt⟩
  | 0x20#6 => some ⟨"add", .R, .rdRsRt⟩
  | 0x21#6 => some ⟨"addu", .R, .rdRsRt⟩
  | 0x22#6 => some ⟨"sub", .R, .rdRsRt⟩
  | 0x23#6 => some ⟨"subu", .R, .rdRsRt⟩
  | 0x24#6 => some ⟨"and", .R, .rdRsRt⟩
  | 0x25#6 => some ⟨"or", .R, .rdRsRt⟩
  | 0x26#6 => some ⟨"xor", .R, .rdRsRt⟩
  | 0x27#6 => some ⟨"nor", .R, .rdRsRt⟩
  | 0x2A#6 => some ⟨"slt", .R, .rdRsRt⟩
  | 0x2B#6 => some ⟨"sltu", .R, .rdRsRt⟩
  | _ => none

/-- `REGIMM_TABLE[rt]` (30_encoding.md R51). -/
def regimmTable (k : BitVec 5) : Option Descriptor :=
  match k with
  | 0x00#5 => some ⟨"bltz", .I, .rsSimm⟩
  | 0x01#5 => some ⟨"bgez", .I, .rsSimm⟩
  | 0x10#5 => some ⟨"bltzal", .I, .rsSimm⟩
  | 0x11#5 => some ⟨"bgezal", .I, .rsSimm⟩
  | 0x08#5 => some ⟨"tgei", .I, .rsSimm⟩
  | 0x09#5 => some ⟨"tgeiu", .I, .rsSimm⟩
  | 0x0A#5 => some ⟨"tlti", .I, .rsSimm⟩
  | 0x0B#5 => some ⟨"tltiu", .I, .rsSimm⟩
  | 0x0C#5 => some ⟨"teqi", .I, .rsSimm⟩
  | 0x0E#5 => some ⟨"tnei", .I, .rsSimm⟩
  | _ => none

/-- `SPECIAL2_TABLE[funct]` (30_encoding.md R52). -/
def special2Table (k : BitVec 6) : Option Descriptor :=
  match k with
  | 0x00#6 => some ⟨"madd", .R, .rsRt⟩
  | 0x01#6 => some ⟨"maddu", .R, .rsRt⟩
  | 0x02#6 => some ⟨"mul", .R, .rdRsRt⟩
  | 0x04#6 => some ⟨"msub", .R, .rsRt⟩
  | 0x05#6 => some ⟨"msubu", .R, .rsRt⟩
  | 0x20#6 => some ⟨"clz", .R, .rdRs⟩
  | 0x21#6 => some ⟨"clo", .R, .rdRs⟩
  | _ => none

/-- `PRIMARY_TABLE[opcode]`: no entry at 0, 1 and 0x1C (30_encoding.md R49, 41_dispatch.md R72). -/
def primaryTable (k : BitVec 6) : Option Descriptor :=
  match k with
  | 0x02#6 => some ⟨"j", .J, .target⟩
  | 0x03#6 => some ⟨"jal", .J, .target⟩
  | 0x04#6 => some ⟨"beq", .I, .rsRtSimm⟩
  | 0x05#6 => some ⟨"bne", .I, .rsRtSimm⟩
  | 0x06#6 => some ⟨"blez", .I, .rsSimm⟩
  | 0x07#6 => some ⟨"bgtz", .I, .rsSimm⟩
  | 0x08#6 => some ⟨"addi", .I, .rtRsSimm⟩
  | 0x09#6 => some ⟨"addiu", .I, .rtRsSimm⟩
  | 0x0A#6 => some ⟨"slti", .I, .rtRsSimm⟩
  | 0x0B#6 => some ⟨"sltiu", .I, .rtRsSimm⟩
  | 0x0C#6 => some ⟨"andi", .I, .rtRsUimm⟩
  | 0x0D#6 => some ⟨"ori", .I, .rtRsUimm⟩
  | 0x0E#6 => some ⟨"xori", .I, .rtRsUimm⟩
  | 0x0F#6 => some ⟨"lui", .I, .rtUimm⟩
  | 0x18#6 => some ⟨"llo", .I, .rtUimm⟩
  | 0x19#6 => some ⟨"lhi", .I, .rtUimm⟩
  | 0x1A#6 => some ⟨"trap", .J, .code26⟩
  | 0x20#6 => some ⟨"lb", .I, .rtOffBase⟩
  | 0x21#6 => some ⟨"lh", .I, .rtOffBase⟩
  | 0x23#6 => some ⟨"lw", .I, .rtOffBase⟩
  | 0x24#6 => some ⟨"lbu", .I, .rtOffBase⟩
  | 0x25#6 => some ⟨"lhu", .I, .rtOffBase⟩
  | 0x28#6 => some ⟨"sb", .I, .rtOffBase⟩
  | 0x29#6 => some ⟨"sh", .I, .rtOffBase⟩
  | 0x2B#6 => some ⟨"sw", .I, .rtOffBase⟩
  | 0x30#6 => some ⟨"ll", .I, .rtOffBase⟩
  | 0x38#6 => some ⟨"sc", .I, .rtOffBase⟩
  | _ => none

/-- The descriptor `nop`, found before every table (41_dispatch.md R72 step 0). -/
def nopDescriptor : Descriptor := ⟨"nop", .R, .none⟩

/-- The descriptor of a word, in the fixed priority order of 41_dispatch.md R72. -/
def lookup (w : Word) (f : Fields) : Option Descriptor :=
  if w = 0x00000000#32 then some nopDescriptor
  else if f.opcode = 0x00#6 then specialTable f.funct
  else if f.opcode = 0x01#6 then regimmTable f.rt
  else if f.opcode = 0x1C#6 then special2Table f.funct
  else primaryTable f.opcode

end Sys2Proof.Machine
end

