-- ==== Sys2Proof/Machine/Decoder.lean ====
section
/-! DEFINITION. The Decoder component as the spec writes it: `decode(word, address)`, one table look-up and one call of the
formatter (41_dispatch.md R70 to R79). The machine runs by `decodeWord` and the meanings; that both give the same result for
every word is a statement about the model. -/

namespace Sys2Proof.Machine

/-- `decode(word, address) -> Ok(DecodedInstruction) | Err(DecodeError)` (41_dispatch.md R70, R72, R75, R76). -/
def decode (w : Word) (address : Nat) : DecodeResult :=
  match fieldsOf w with
  | .error _ => .err .fieldRangeViolation
  | .ok f =>
    match lookup w f with
    | none => .err (.unrecognizedInstruction address f.opcode f.funct)
    | some d => .ok { address, mnemonic := d.mnemonic, format := d.format, operandText := formatOperands d.cls f }

end Sys2Proof.Machine
end

