-- ==== Sys2Proof/Machine/Flags.lean ====
section
/-! DEFINITION. The block has no status flags and no condition codes (10_state.md R15), so no instruction computes one. What
stands in their place are the result signals: the port view of `decode` (41_dispatch.md R80) and the numeric error codes
(60_exceptions.md R400). They are functions of a result, not state. -/

namespace Sys2Proof.Machine

/-- The numeric error-kind code of a result (60_exceptions.md R400): 0 Ok, 1, 2 and 3 the three kinds. -/
def DecodeResult.code (r : DecodeResult) : Nat :=
  match r with
  | .ok _ => 0
  | .err (.unrecognizedInstruction _ _ _) => 1
  | .err (.truncatedInstruction _) => 2
  | .err .fieldRangeViolation => 3

/-- `ok_o` (41_dispatch.md R80). -/
def okO (w : Word) (addrI : Nat) : Bool :=
  match decode w addrI with
  | .ok _ => true
  | .err _ => false

/-- `addr_o`, the address the result carries; that it equals `addr_i` in both outcomes is a statement (41_dispatch.md R80). -/
def addrO (w : Word) (addrI : Nat) : Nat :=
  match decode w addrI with
  | .ok d => d.address
  | .err (.unrecognizedInstruction address _ _) => address
  | .err (.truncatedInstruction address) => address
  | .err .fieldRangeViolation => addrI

/-- `mnemonic_o`, valid when `ok_o = 1` (41_dispatch.md R80). -/
def mnemonicO (w : Word) (addrI : Nat) : Option Text :=
  match decode w addrI with
  | .ok d => some d.mnemonic
  | .err _ => none

/-- `format_o`, valid when `ok_o = 1` (41_dispatch.md R80). -/
def formatO (w : Word) (addrI : Nat) : Option Format :=
  match decode w addrI with
  | .ok d => some d.format
  | .err _ => none

/-- `operands_o`, valid when `ok_o = 1` (41_dispatch.md R80). -/
def operandsO (w : Word) (addrI : Nat) : Option Text :=
  match decode w addrI with
  | .ok d => some d.operandText
  | .err _ => none

/-- `err_opcode_o`, valid when `ok_o = 0` (41_dispatch.md R80). -/
def errOpcodeO (w : Word) (addrI : Nat) : Option (BitVec 6) :=
  match decode w addrI with
  | .err (.unrecognizedInstruction _ opcode _) => some opcode
  | _ => none

/-- `err_function_o`, valid when `ok_o = 0` (41_dispatch.md R80). -/
def errFunctionO (w : Word) (addrI : Nat) : Option (BitVec 6) :=
  match decode w addrI with
  | .err (.unrecognizedInstruction _ _ function) => some function
  | _ => none

end Sys2Proof.Machine
end

