-- ==== Sys2Proof/Safety.lean ====
section
/-! DEFINITION. The vocabulary of the claims: what a good state is, what a whole run emits, and the shapes in which the
statements about instructions are written. Nothing here is used by the machine. -/

namespace Sys2Proof.Machine

/-- The address of a word result; `none` for the errors that no word has (49_sequencer.md R343). -/
def DecodeResult.wordAddress (r : DecodeResult) : Option Nat :=
  match r with
  | .ok d => some d.address
  | .err (.unrecognizedInstruction address _ _) => some address
  | .err (.truncatedInstruction _) => none
  | .err .fieldRangeViolation => none

/-- The results are word results at `a`, `a + 4`, `a + 8`, ... in that order (20_memory.md R28). -/
def WordResultsFrom (a : Nat) (rs : List DecodeResult) : Prop :=
  match rs with
  | [] => True
  | r :: rest => r.wordAddress = some a ∧ WordResultsFrom (a + 4) rest

/-- A good state: `addr` counts the bytes of complete words from BASE (10_state.md R14, 60_exceptions.md R410;
in FAILED too, where the leftover bytes are not counted: log entry 5), the emitted
results are one for each such word in address order (49_sequencer.md R343), an ended sequencer has no input left, and
a truncation error stands last in FAILED and nowhere else (R344, R345). -/
structure State.Inv (s : State) : Prop where
  addr_counts : s.addr = s.params.base + s.consumed
  results : ∃ words : List DecodeResult,
    WordResultsFrom s.params.base words ∧ s.consumed = 4 * words.length ∧
    s.output = (match s.seqState with
      | .run => words
      | .done => words
      | .failed => words ++ [.err (.truncatedInstruction s.addr)])
  ended : s.seqState ≠ .run → s.input = []

/-- The next request is served: RUN, a sink that asks, and a run inside its address width. -/
structure State.Ready (s : State) : Prop where
  running : s.seqState = .run
  asks : s.sinkAsks = true
  fits : s.inContract = true

/-- What `run(byte_source, BASE)` emits for the bytes, from address `a` on (49_sequencer.md R340, R343, R345). -/
def streamResults (bytes : List Byte) (a : Nat) : List DecodeResult :=
  match bytes with
  | [] => []
  | b0 :: b1 :: b2 :: b3 :: rest => decode (assembleWord b0 b1 b2 b3) a :: streamResults rest (a + 4)
  | _ => [.err (.truncatedInstruction a)]

/-- The number a list of digits denotes in a base, most significant first; letters count from ten. -/
def digitsValue (base : Nat) (cs : List Char) : Nat :=
  cs.foldl (fun n c => base * n + (if c.toNat < 58 then c.toNat - 48 else c.toNat - 87)) 0

/-- The bit slices of a word by 30_encoding.md R42, for stating what a word selects. -/
abbrev rsOf (w : Word) : RegIndex := w.extractLsb' 21 5
abbrev rtOf (w : Word) : RegIndex := w.extractLsb' 16 5
abbrev rdOf (w : Word) : RegIndex := w.extractLsb' 11 5
abbrev shamtOf (w : Word) : Shamt := w.extractLsb' 6 5
abbrev immOf (w : Word) : Imm16 := w.extractLsb' 0 16
abbrev targetOf (w : Word) : Target26 := w.extractLsb' 0 26
abbrev opcodeOf (w : Word) : BitVec 6 := w.extractLsb' 26 6
abbrev functOf (w : Word) : BitVec 6 := w.extractLsb' 0 6

/-- Every word that agrees with `pattern` under `mask` decodes to `i` of that word. -/
def Selects (pattern mask : Word) (i : Word → Instr) : Prop :=
  ∀ w : Word, w &&& mask = pattern → decodeWord w = .ok (i w)

/-- In every state the instruction answers a next state: `Ok` with the state's address, this mnemonic, format tag and
operand text is emitted, `addr` is advanced by 4, and nothing else is changed. -/
def Completes (i : Instr) (mnemonic : Text) (format : Format) (operandText : Text) : Prop :=
  ∀ s : State, exec i s = .next { s with
    addr := s.addr + 4
    output := s.output ++ [.ok { address := s.addr, mnemonic, format, operandText }] }

end Sys2Proof.Machine
end

