-- ==== Sys2Proof/Certificates/Slice0/Obligations.lean ====
section
/-! DEFINITION. The statements for the provers. -/

open Sys2Proof Sys2Proof.Machine

/-- extract is the logical shift and the mask inside its constraints, and fails fast outside them. Rests on 40_bitfield.md R60, 40_bitfield.md R61, 60_exceptions.md R403, log entry 9. The first three clauses are R60. That a call outside the constraints of R61 answers an error is the model's choice (log entry 9): R61 and R403 also let a model omit it. -/
def Obligations.ExtractIsShiftAndMask : Prop :=
  (∀ (w : Word) (offset width : Nat), 0 < width ∧ width ≤ 32 ∧ offset + width ≤ 32 →
    ∃ v, extract w offset width = .ok v ∧ v.toNat = (w.toNat >>> offset) &&& ((1 <<< width) - 1)) ∧
  (∀ w : Word, extract w 0 32 = .ok w) ∧ extract 0x012A4020#32 21 5 = .ok 9#5 ∧
  (∀ (w : Word) (offset width : Nat), ¬ (0 < width ∧ width ≤ 32 ∧ offset + width ≤ 32) →
    extract w offset width = .error .fieldRange)

/-- The eight fields of a word are its bit slices, and their extraction never fails. Rests on 30_encoding.md R42. Derived, not stated: the rules mark these as the spec's own decisions and not the source's words: D5 (92_eei_decisions.md). -/
def Obligations.FieldsAreTheEightSlices : Prop :=
  ∀ w : Word, ∃ f, fieldsOf w = .ok f ∧
    f.opcode.toNat = w.toNat / 2 ^ 26 ∧ f.rs.toNat = w.toNat / 2 ^ 21 % 2 ^ 5 ∧ f.rt.toNat = w.toNat / 2 ^ 16 % 2 ^ 5 ∧
    f.rd.toNat = w.toNat / 2 ^ 11 % 2 ^ 5 ∧ f.shamt.toNat = w.toNat / 2 ^ 6 % 2 ^ 5 ∧ f.funct.toNat = w.toNat % 2 ^ 6 ∧
    f.imm.toNat = w.toNat % 2 ^ 16 ∧ f.target.toNat = w.toNat % 2 ^ 26

/-- sign_extend subtracts 2^width exactly when the top bit is set, and sext_16 is the two's-complement value. Formalises R62. The clauses on 16 bits are values of R63. -/
def Obligations.SignExtensionIsTwosComplement : Prop :=
  (∀ value width : Nat, 1 ≤ width → value < 2 ^ width →
    (value.testBit (width - 1) = true → signExtend value width = (value : Int) - 2 ^ width) ∧
    (value.testBit (width - 1) = false → signExtend value width = value) ∧
    -(2 ^ (width - 1) : Int) ≤ signExtend value width ∧ signExtend value width ≤ 2 ^ (width - 1) - 1) ∧
  (∀ imm : Imm16, sext16 imm = imm.toInt) ∧
  sext16 0x8000#16 = -32768 ∧ sext16 0x7FFF#16 = 32767

/-- jtarget or-s 0xFC000000 into a target with bit 25 set, leaves any other unchanged, and is the residue of sext_26. Formalises R64. -/
def Obligations.JumpTargetIsAdjustedUnsigned : Prop :=
  (∀ t : Target26, t.getLsbD 25 = true →
    jtarget t = t.setWidth 32 ||| 0xFC000000#32 ∧ (jtarget t).toNat = t.toNat + 0xFC000000 ∧
    0xFE000000 ≤ (jtarget t).toNat ∧ (jtarget t).toNat ≤ 0xFFFFFFFF) ∧
  (∀ t : Target26, t.getLsbD 25 = false → (jtarget t).toNat = t.toNat ∧ (jtarget t).toNat ≤ 0x01FFFFFF) ∧
  (∀ t : Target26, ((jtarget t).toNat : Int) = signExtend t.toNat 26 % 2 ^ 32) ∧
  jtarget 0x4#26 = 4#32 ∧ jtarget 0x1FFFFFF#26 = 0x01FFFFFF#32 ∧
  jtarget 0x2000000#26 = 0xFE000000#32 ∧ jtarget 0x3FFFFFF#26 = 0xFFFFFFFF#32

/-- Four stream bytes form a word with the first byte lowest, and every word has exactly one such four bytes. Formalises R21. -/
def Obligations.WordAssemblyIsLittleEndian : Prop :=
  (∀ b0 b1 b2 b3 : Byte, (assembleWord b0 b1 b2 b3).toNat =
    b0.toNat + b1.toNat * 2 ^ 8 + b2.toNat * 2 ^ 16 + b3.toNat * 2 ^ 24) ∧
  (∀ w : Word, ∃ b0 b1 b2 b3, wordBytes w = [b0, b1, b2, b3] ∧ assembleWord b0 b1 b2 b3 = w) ∧
  (∀ b0 b1 b2 b3 : Byte, wordBytes (assembleWord b0 b1 b2 b3) = [b0, b1, b2, b3]) ∧
  assembleWord 0x20#8 0x40#8 0x2A#8 0x01#8 = 0x012A4020#32

/-- regname is the 32-entry table, its names pairwise different. Rests on 42_formatter.md R90. Derived, not stated: the rules mark these as the spec's own decisions and not the source's words: D6 (92_eei_decisions.md). -/
def Obligations.RegisterNamesAreTheTable : Prop :=
  (List.finRange 32).map (fun i => regname (BitVec.ofFin i)) =
    ["$zero", "$at", "$v0", "$v1", "$a0", "$a1", "$a2", "$a3", "$t0", "$t1", "$t2", "$t3", "$t4", "$t5", "$t6", "$t7",
     "$s0", "$s1", "$s2", "$s3", "$s4", "$s5", "$s6", "$s7", "$t8", "$t9", "$k0", "$k1", "$gp", "$sp", "$fp", "$ra"] ∧
  (∀ i j : RegIndex, regname i = regname j → i = j) ∧
  (∀ i : RegIndex, (regname i).length = if i = 0#5 then 5 else 3)

/-- hexs, hexu and dec print exactly the number, without padding, in lower-case digits. Rests on 42_formatter.md R91, 42_formatter.md R92, 42_formatter.md R93. Derived, not stated: the rules mark these as the spec's own decisions and not the source's words: D16, D17 (92_eei_decisions.md). -/
def Obligations.NumberTextsDenoteTheirNumbers : Prop :=
  (∀ v : Int, 0 ≤ v → hexs v = hexu v.toNat) ∧
  (∀ v : Int, v < 0 → hexs v = "-" ++ hexu (-v).toNat) ∧
  (∀ n : Nat, ∃ ds : List Char, hexu n = "0x" ++ String.ofList ds ∧ (∀ c ∈ ds, c ∈ "0123456789abcdef".toList) ∧
    digitsValue 16 ds = n ∧ ds ≠ [] ∧ (ds.head? = some '0' → ds = ['0'])) ∧
  (∀ n : Nat, ∃ ds : List Char, dec n = String.ofList ds ∧ (∀ c ∈ ds, c ∈ "0123456789".toList) ∧
    digitsValue 10 ds = n ∧ ds ≠ [] ∧ (ds.head? = some '0' → ds = ['0']))

/-- format_operands renders each of the 16 operand classes from the fields that class names. Rests on 42_formatter.md R95, 42_formatter.md R100 to R115. -/
def Obligations.FormatterRendersByClass : Prop :=
  ∀ f : Fields,
    formatOperands .none f = "" ∧
    formatOperands .rdRtSa f = regname f.rd ++ ", " ++ regname f.rt ++ ", " ++ dec f.shamt.toNat ∧
    formatOperands .rdRtRs f = regname f.rd ++ ", " ++ regname f.rt ++ ", " ++ regname f.rs ∧
    formatOperands .rs f = regname f.rs ∧
    formatOperands .rdRs f = regname f.rd ++ ", " ++ regname f.rs ∧
    formatOperands .rd f = regname f.rd ∧
    formatOperands .rsRt f = regname f.rs ++ ", " ++ regname f.rt ∧
    formatOperands .rdRsRt f = regname f.rd ++ ", " ++ regname f.rs ++ ", " ++ regname f.rt ∧
    formatOperands .rsSimm f = regname f.rs ++ ", " ++ hexs (sext16 f.imm) ∧
    formatOperands .rsRtSimm f = regname f.rs ++ ", " ++ regname f.rt ++ ", " ++ hexs (sext16 f.imm) ∧
    formatOperands .rtRsSimm f = regname f.rt ++ ", " ++ regname f.rs ++ ", " ++ hexs (sext16 f.imm) ∧
    formatOperands .rtRsUimm f = regname f.rt ++ ", " ++ regname f.rs ++ ", " ++ hexu f.imm.toNat ∧
    formatOperands .rtUimm f = regname f.rt ++ ", " ++ hexu f.imm.toNat ∧
    formatOperands .rtOffBase f = regname f.rt ++ ", " ++ hexs (sext16 f.imm) ++ "(" ++ regname f.rs ++ ")" ∧
    formatOperands .target f = dec (jtarget f.target).toNat ∧
    formatOperands .code26 f = hexu f.target.toNat

/-- The all-zero word and no other is nop; any other word with opcode 0 and funct 0 is sll; nop completes with no operands. Formalises R55, R201. -/
def Obligations.NopIsExactlyTheZeroWord : Prop :=
  (∀ w : Word, decodeWord w = .ok .nop ↔ w = 0x00000000#32) ∧
  (∀ w : Word, w ≠ 0x00000000#32 → opcodeOf w = 0x00#6 → functOf w = 0x00#6 →
    decodeWord w = .ok (.sll (rsOf w) (rtOf w) (rdOf w) (shamtOf w))) ∧
  Completes .nop "nop" .R ""

/-- sll, srl, sra: selector, fields, printed text and whole effect. Rests on 43_special.md R202, 43_special.md R203, 43_special.md R204. Derived, not stated: the rules mark these as the spec's own decisions and not the source's words: D5, D6, D7, D16, D17, D22 (92_eei_decisions.md). -/
def Obligations.ShiftByAmountDecodesAndPrints : Prop :=
  (∀ w : Word, w &&& 0xFC00003F#32 = 0x00000000#32 → w ≠ 0x00000000#32 →
    decodeWord w = .ok (.sll (rsOf w) (rtOf w) (rdOf w) (shamtOf w))) ∧
  Selects 0x00000002#32 0xFC00003F#32 (fun w => .srl (rsOf w) (rtOf w) (rdOf w) (shamtOf w)) ∧
  Selects 0x00000003#32 0xFC00003F#32 (fun w => .sra (rsOf w) (rtOf w) (rdOf w) (shamtOf w)) ∧
  (∀ (rs rt rd : RegIndex) (shamt : Shamt),
    Completes (.sll rs rt rd shamt) "sll" .R
      (regname rd ++ ", " ++ regname rt ++ ", " ++ dec shamt.toNat) ∧
    Completes (.srl rs rt rd shamt) "srl" .R
      (regname rd ++ ", " ++ regname rt ++ ", " ++ dec shamt.toNat) ∧
    Completes (.sra rs rt rd shamt) "sra" .R
      (regname rd ++ ", " ++ regname rt ++ ", " ++ dec shamt.toNat))

/-- sllv, srlv, srav: selector, fields, printed text (rd, rt, rs) and whole effect. Rests on 43_special.md R205, 43_special.md R206, 43_special.md R207. Derived, not stated: the rules mark these as the spec's own decisions and not the source's words: D5, D6, D7, D16, D17, D22 (92_eei_decisions.md). -/
def Obligations.ShiftByRegisterDecodesAndPrints : Prop :=
  Selects 0x00000004#32 0xFC00003F#32 (fun w => .sllv (rsOf w) (rtOf w) (rdOf w) (shamtOf w)) ∧
  Selects 0x00000006#32 0xFC00003F#32 (fun w => .srlv (rsOf w) (rtOf w) (rdOf w) (shamtOf w)) ∧
  Selects 0x00000007#32 0xFC00003F#32 (fun w => .srav (rsOf w) (rtOf w) (rdOf w) (shamtOf w)) ∧
  (∀ (rs rt rd : RegIndex) (shamt : Shamt),
    Completes (.sllv rs rt rd shamt) "sllv" .R
      (regname rd ++ ", " ++ regname rt ++ ", " ++ regname rs) ∧
    Completes (.srlv rs rt rd shamt) "srlv" .R
      (regname rd ++ ", " ++ regname rt ++ ", " ++ regname rs) ∧
    Completes (.srav rs rt rd shamt) "srav" .R
      (regname rd ++ ", " ++ regname rt ++ ", " ++ regname rs))

/-- jr, jalr: selector, fields, printed text and whole effect; the jump is not followed. Rests on 43_special.md R208, 43_special.md R209. Derived, not stated: the rules mark these as the spec's own decisions and not the source's words: D5, D6, D7, D16, D17, D18, D22 (92_eei_decisions.md). -/
def Obligations.JumpRegisterDecodesAndPrints : Prop :=
  Selects 0x00000008#32 0xFC00003F#32 (fun w => .jr (rsOf w) (rtOf w) (rdOf w) (shamtOf w)) ∧
  Selects 0x00000009#32 0xFC00003F#32 (fun w => .jalr (rsOf w) (rtOf w) (rdOf w) (shamtOf w)) ∧
  (∀ (rs rt rd : RegIndex) (shamt : Shamt),
    Completes (.jr rs rt rd shamt) "jr" .R
      (regname rs) ∧
    Completes (.jalr rs rt rd shamt) "jalr" .R
      (regname rd ++ ", " ++ regname rs))

/-- mfhi, mthi, mflo, mtlo: selector, fields, printed text and whole effect; no HI or LO is touched. Rests on 43_special.md R210, 43_special.md R211, 43_special.md R212, 43_special.md R213. Derived, not stated: the rules mark these as the spec's own decisions and not the source's words: D5, D6, D7, D16, D17, D22 (92_eei_decisions.md). -/
def Obligations.HiLoMovesDecodeAndPrint : Prop :=
  Selects 0x00000010#32 0xFC00003F#32 (fun w => .mfhi (rsOf w) (rtOf w) (rdOf w) (shamtOf w)) ∧
  Selects 0x00000011#32 0xFC00003F#32 (fun w => .mthi (rsOf w) (rtOf w) (rdOf w) (shamtOf w)) ∧
  Selects 0x00000012#32 0xFC00003F#32 (fun w => .mflo (rsOf w) (rtOf w) (rdOf w) (shamtOf w)) ∧
  Selects 0x00000013#32 0xFC00003F#32 (fun w => .mtlo (rsOf w) (rtOf w) (rdOf w) (shamtOf w)) ∧
  (∀ (rs rt rd : RegIndex) (shamt : Shamt),
    Completes (.mfhi rs rt rd shamt) "mfhi" .R
      (regname rd) ∧
    Completes (.mthi rs rt rd shamt) "mthi" .R
      (regname rs) ∧
    Completes (.mflo rs rt rd shamt) "mflo" .R
      (regname rd) ∧
    Completes (.mtlo rs rt rd shamt) "mtlo" .R
      (regname rs))

/-- mult, multu, div, divu: selector, fields, printed text and whole effect; nothing is divided. Rests on 43_special.md R214, 43_special.md R215, 43_special.md R216, 43_special.md R217. Derived, not stated: the rules mark these as the spec's own decisions and not the source's words: D5, D6, D7, D16, D17, D22 (92_eei_decisions.md). -/
def Obligations.MultiplyDivideDecodeAndPrint : Prop :=
  Selects 0x00000018#32 0xFC00003F#32 (fun w => .mult (rsOf w) (rtOf w) (rdOf w) (shamtOf w)) ∧
  Selects 0x00000019#32 0xFC00003F#32 (fun w => .multu (rsOf w) (rtOf w) (rdOf w) (shamtOf w)) ∧
  Selects 0x0000001A#32 0xFC00003F#32 (fun w => .div (rsOf w) (rtOf w) (rdOf w) (shamtOf w)) ∧
  Selects 0x0000001B#32 0xFC00003F#32 (fun w => .divu (rsOf w) (rtOf w) (rdOf w) (shamtOf w)) ∧
  (∀ (rs rt rd : RegIndex) (shamt : Shamt),
    Completes (.mult rs rt rd shamt) "mult" .R
      (regname rs ++ ", " ++ regname rt) ∧
    Completes (.multu rs rt rd shamt) "multu" .R
      (regname rs ++ ", " ++ regname rt) ∧
    Completes (.div rs rt rd shamt) "div" .R
      (regname rs ++ ", " ++ regname rt) ∧
    Completes (.divu rs rt rd shamt) "divu" .R
      (regname rs ++ ", " ++ regname rt))

/-- add, addu, sub, subu, slt, sltu: selector, fields, printed text and whole effect. Rests on 43_special.md R218, 43_special.md R219, 43_special.md R220, 43_special.md R221, 43_special.md R226, 43_special.md R227. Derived, not stated: the rules mark these as the spec's own decisions and not the source's words: D5, D6, D7, D16, D17, D22 (92_eei_decisions.md). -/
def Obligations.AddSubtractCompareDecodeAndPrint : Prop :=
  Selects 0x00000020#32 0xFC00003F#32 (fun w => .add (rsOf w) (rtOf w) (rdOf w) (shamtOf w)) ∧
  Selects 0x00000021#32 0xFC00003F#32 (fun w => .addu (rsOf w) (rtOf w) (rdOf w) (shamtOf w)) ∧
  Selects 0x00000022#32 0xFC00003F#32 (fun w => .sub (rsOf w) (rtOf w) (rdOf w) (shamtOf w)) ∧
  Selects 0x00000023#32 0xFC00003F#32 (fun w => .subu (rsOf w) (rtOf w) (rdOf w) (shamtOf w)) ∧
  Selects 0x0000002A#32 0xFC00003F#32 (fun w => .slt (rsOf w) (rtOf w) (rdOf w) (shamtOf w)) ∧
  Selects 0x0000002B#32 0xFC00003F#32 (fun w => .sltu (rsOf w) (rtOf w) (rdOf w) (shamtOf w)) ∧
  (∀ (rs rt rd : RegIndex) (shamt : Shamt),
    Completes (.add rs rt rd shamt) "add" .R
      (regname rd ++ ", " ++ regname rs ++ ", " ++ regname rt) ∧
    Completes (.addu rs rt rd shamt) "addu" .R
      (regname rd ++ ", " ++ regname rs ++ ", " ++ regname rt) ∧
    Completes (.sub rs rt rd shamt) "sub" .R
      (regname rd ++ ", " ++ regname rs ++ ", " ++ regname rt) ∧
    Completes (.subu rs rt rd shamt) "subu" .R
      (regname rd ++ ", " ++ regname rs ++ ", " ++ regname rt) ∧
    Completes (.slt rs rt rd shamt) "slt" .R
      (regname rd ++ ", " ++ regname rs ++ ", " ++ regname rt) ∧
    Completes (.sltu rs rt rd shamt) "sltu" .R
      (regname rd ++ ", " ++ regname rs ++ ", " ++ regname rt))

/-- and, or, xor, nor: selector, fields, printed text and whole effect. Rests on 43_special.md R222, 43_special.md R223, 43_special.md R224, 43_special.md R225. Derived, not stated: the rules mark these as the spec's own decisions and not the source's words: D5, D6, D7, D16, D17, D22 (92_eei_decisions.md). -/
def Obligations.LogicalDecodeAndPrint : Prop :=
  Selects 0x00000024#32 0xFC00003F#32 (fun w => .and (rsOf w) (rtOf w) (rdOf w) (shamtOf w)) ∧
  Selects 0x00000025#32 0xFC00003F#32 (fun w => .or (rsOf w) (rtOf w) (rdOf w) (shamtOf w)) ∧
  Selects 0x00000026#32 0xFC00003F#32 (fun w => .xor (rsOf w) (rtOf w) (rdOf w) (shamtOf w)) ∧
  Selects 0x00000027#32 0xFC00003F#32 (fun w => .nor (rsOf w) (rtOf w) (rdOf w) (shamtOf w)) ∧
  (∀ (rs rt rd : RegIndex) (shamt : Shamt),
    Completes (.and rs rt rd shamt) "and" .R
      (regname rd ++ ", " ++ regname rs ++ ", " ++ regname rt) ∧
    Completes (.or rs rt rd shamt) "or" .R
      (regname rd ++ ", " ++ regname rs ++ ", " ++ regname rt) ∧
    Completes (.xor rs rt rd shamt) "xor" .R
      (regname rd ++ ", " ++ regname rs ++ ", " ++ regname rt) ∧
    Completes (.nor rs rt rd shamt) "nor" .R
      (regname rd ++ ", " ++ regname rs ++ ", " ++ regname rt))

/-- bltz, bgez, bltzal, bgezal: selector, fields, printed text and whole effect; no branch is taken. Rests on 44_regimm.md R241, 44_regimm.md R242, 44_regimm.md R243, 44_regimm.md R244. Derived, not stated: the rules mark these as the spec's own decisions and not the source's words: D5, D6, D8, D16, D17, D22 (92_eei_decisions.md). -/
def Obligations.RegimmBranchesDecodeAndPrint : Prop :=
  Selects 0x04000000#32 0xFC1F0000#32 (fun w => .bltz (rsOf w) (immOf w)) ∧
  Selects 0x04010000#32 0xFC1F0000#32 (fun w => .bgez (rsOf w) (immOf w)) ∧
  Selects 0x04100000#32 0xFC1F0000#32 (fun w => .bltzal (rsOf w) (immOf w)) ∧
  Selects 0x04110000#32 0xFC1F0000#32 (fun w => .bgezal (rsOf w) (immOf w)) ∧
  (∀ (rs : RegIndex) (imm : Imm16),
    Completes (.bltz rs imm) "bltz" .I
      (regname rs ++ ", " ++ hexs (sext16 imm)) ∧
    Completes (.bgez rs imm) "bgez" .I
      (regname rs ++ ", " ++ hexs (sext16 imm)) ∧
    Completes (.bltzal rs imm) "bltzal" .I
      (regname rs ++ ", " ++ hexs (sext16 imm)) ∧
    Completes (.bgezal rs imm) "bgezal" .I
      (regname rs ++ ", " ++ hexs (sext16 imm)))

/-- tgei, tgeiu, tlti, tltiu, teqi, tnei: selector, fields, printed text and whole effect; no trap is raised. Rests on 44_regimm.md R245, 44_regimm.md R246, 44_regimm.md R247, 44_regimm.md R248, 44_regimm.md R249, 44_regimm.md R250. Derived, not stated: the rules mark these as the spec's own decisions and not the source's words: D5, D6, D8, D16, D17, D22 (92_eei_decisions.md). -/
def Obligations.TrapImmediatesDecodeAndPrint : Prop :=
  Selects 0x04080000#32 0xFC1F0000#32 (fun w => .tgei (rsOf w) (immOf w)) ∧
  Selects 0x04090000#32 0xFC1F0000#32 (fun w => .tgeiu (rsOf w) (immOf w)) ∧
  Selects 0x040A0000#32 0xFC1F0000#32 (fun w => .tlti (rsOf w) (immOf w)) ∧
  Selects 0x040B0000#32 0xFC1F0000#32 (fun w => .tltiu (rsOf w) (immOf w)) ∧
  Selects 0x040C0000#32 0xFC1F0000#32 (fun w => .teqi (rsOf w) (immOf w)) ∧
  Selects 0x040E0000#32 0xFC1F0000#32 (fun w => .tnei (rsOf w) (immOf w)) ∧
  (∀ (rs : RegIndex) (imm : Imm16),
    Completes (.tgei rs imm) "tgei" .I
      (regname rs ++ ", " ++ hexs (sext16 imm)) ∧
    Completes (.tgeiu rs imm) "tgeiu" .I
      (regname rs ++ ", " ++ hexs (sext16 imm)) ∧
    Completes (.tlti rs imm) "tlti" .I
      (regname rs ++ ", " ++ hexs (sext16 imm)) ∧
    Completes (.tltiu rs imm) "tltiu" .I
      (regname rs ++ ", " ++ hexs (sext16 imm)) ∧
    Completes (.teqi rs imm) "teqi" .I
      (regname rs ++ ", " ++ hexs (sext16 imm)) ∧
    Completes (.tnei rs imm) "tnei" .I
      (regname rs ++ ", " ++ hexs (sext16 imm)))

/-- madd, maddu, mul, msub, msubu: selector, fields, printed text (mul rd, rs, rt; the others rs, rt) and whole effect. Rests on 45_special2.md R261, 45_special2.md R262, 45_special2.md R263, 45_special2.md R264, 45_special2.md R265. Derived, not stated: the rules mark these as the spec's own decisions and not the source's words: D5, D6, D9, D16, D17, D19, D22 (92_eei_decisions.md). -/
def Obligations.MultiplyAccumulateDecodesAndPrints : Prop :=
  Selects 0x70000000#32 0xFC00003F#32 (fun w => .madd (rsOf w) (rtOf w) (rdOf w) (shamtOf w)) ∧
  Selects 0x70000001#32 0xFC00003F#32 (fun w => .maddu (rsOf w) (rtOf w) (rdOf w) (shamtOf w)) ∧
  Selects 0x70000002#32 0xFC00003F#32 (fun w => .mul (rsOf w) (rtOf w) (rdOf w) (shamtOf w)) ∧
  Selects 0x70000004#32 0xFC00003F#32 (fun w => .msub (rsOf w) (rtOf w) (rdOf w) (shamtOf w)) ∧
  Selects 0x70000005#32 0xFC00003F#32 (fun w => .msubu (rsOf w) (rtOf w) (rdOf w) (shamtOf w)) ∧
  (∀ (rs rt rd : RegIndex) (shamt : Shamt),
    Completes (.madd rs rt rd shamt) "madd" .R
      (regname rs ++ ", " ++ regname rt) ∧
    Completes (.maddu rs rt rd shamt) "maddu" .R
      (regname rs ++ ", " ++ regname rt) ∧
    Completes (.mul rs rt rd shamt) "mul" .R
      (regname rd ++ ", " ++ regname rs ++ ", " ++ regname rt) ∧
    Completes (.msub rs rt rd shamt) "msub" .R
      (regname rs ++ ", " ++ regname rt) ∧
    Completes (.msubu rs rt rd shamt) "msubu" .R
      (regname rs ++ ", " ++ regname rt))

/-- clz, clo: selector, fields, printed text (rd, rs) and whole effect, rt ignored. Rests on 45_special2.md R266, 45_special2.md R267. Derived, not stated: the rules mark these as the spec's own decisions and not the source's words: D5, D6, D9, D16, D17, D22 (92_eei_decisions.md). -/
def Obligations.CountLeadingDecodesAndPrints : Prop :=
  Selects 0x70000020#32 0xFC00003F#32 (fun w => .clz (rsOf w) (rtOf w) (rdOf w) (shamtOf w)) ∧
  Selects 0x70000021#32 0xFC00003F#32 (fun w => .clo (rsOf w) (rtOf w) (rdOf w) (shamtOf w)) ∧
  (∀ (rs rt rd : RegIndex) (shamt : Shamt),
    Completes (.clz rs rt rd shamt) "clz" .R
      (regname rd ++ ", " ++ regname rs) ∧
    Completes (.clo rs rt rd shamt) "clo" .R
      (regname rd ++ ", " ++ regname rs))

/-- j, jal: selector, target, printed text and whole effect; the jump is not followed. Rests on 46_jump_branch.md R281, 46_jump_branch.md R282. Derived, not stated: the rules mark these as the spec's own decisions and not the source's words: D5, D6, D10, D16, D17, D22 (92_eei_decisions.md). -/
def Obligations.JumpsDecodeAndPrint : Prop :=
  Selects 0x08000000#32 0xFC000000#32 (fun w => .j (targetOf w)) ∧
  Selects 0x0C000000#32 0xFC000000#32 (fun w => .jal (targetOf w)) ∧
  (∀ (target : Target26),
    Completes (.j target) "j" .J
      (dec (jtarget target).toNat) ∧
    Completes (.jal target) "jal" .J
      (dec (jtarget target).toNat))

/-- beq, bne: selector, fields, printed text and whole effect; no branch is taken. Rests on 46_jump_branch.md R283, 46_jump_branch.md R284. Derived, not stated: the rules mark these as the spec's own decisions and not the source's words: D5, D6, D10, D16, D17, D22 (92_eei_decisions.md). -/
def Obligations.EqualityBranchesDecodeAndPrint : Prop :=
  Selects 0x10000000#32 0xFC000000#32 (fun w => .beq (rsOf w) (rtOf w) (immOf w)) ∧
  Selects 0x14000000#32 0xFC000000#32 (fun w => .bne (rsOf w) (rtOf w) (immOf w)) ∧
  (∀ (rs rt : RegIndex) (imm : Imm16),
    Completes (.beq rs rt imm) "beq" .I
      (regname rs ++ ", " ++ regname rt ++ ", " ++ hexs (sext16 imm)) ∧
    Completes (.bne rs rt imm) "bne" .I
      (regname rs ++ ", " ++ regname rt ++ ", " ++ hexs (sext16 imm)))

/-- blez, bgtz: selector, fields, printed text and whole effect, rt ignored. Rests on 46_jump_branch.md R285, 46_jump_branch.md R286. Derived, not stated: the rules mark these as the spec's own decisions and not the source's words: D5, D6, D10, D16, D17, D22 (92_eei_decisions.md). -/
def Obligations.SignBranchesDecodeAndPrint : Prop :=
  Selects 0x18000000#32 0xFC000000#32 (fun w => .blez (rsOf w) (rtOf w) (immOf w)) ∧
  Selects 0x1C000000#32 0xFC000000#32 (fun w => .bgtz (rsOf w) (rtOf w) (immOf w)) ∧
  (∀ (rs rt : RegIndex) (imm : Imm16),
    Completes (.blez rs rt imm) "blez" .I
      (regname rs ++ ", " ++ hexs (sext16 imm)) ∧
    Completes (.bgtz rs rt imm) "bgtz" .I
      (regname rs ++ ", " ++ hexs (sext16 imm)))

/-- addi, addiu, slti, sltiu: selector, fields, printed text (signed immediate) and whole effect. Rests on 47_immediate.md R301, 47_immediate.md R302, 47_immediate.md R303, 47_immediate.md R304. Derived, not stated: the rules mark these as the spec's own decisions and not the source's words: D5, D6, D10, D15, D16, D17, D22 (92_eei_decisions.md). -/
def Obligations.ImmediateArithmeticDecodesAndPrints : Prop :=
  Selects 0x20000000#32 0xFC000000#32 (fun w => .addi (rsOf w) (rtOf w) (immOf w)) ∧
  Selects 0x24000000#32 0xFC000000#32 (fun w => .addiu (rsOf w) (rtOf w) (immOf w)) ∧
  Selects 0x28000000#32 0xFC000000#32 (fun w => .slti (rsOf w) (rtOf w) (immOf w)) ∧
  Selects 0x2C000000#32 0xFC000000#32 (fun w => .sltiu (rsOf w) (rtOf w) (immOf w)) ∧
  (∀ (rs rt : RegIndex) (imm : Imm16),
    Completes (.addi rs rt imm) "addi" .I
      (regname rt ++ ", " ++ regname rs ++ ", " ++ hexs (sext16 imm)) ∧
    Completes (.addiu rs rt imm) "addiu" .I
      (regname rt ++ ", " ++ regname rs ++ ", " ++ hexs (sext16 imm)) ∧
    Completes (.slti rs rt imm) "slti" .I
      (regname rt ++ ", " ++ regname rs ++ ", " ++ hexs (sext16 imm)) ∧
    Completes (.sltiu rs rt imm) "sltiu" .I
      (regname rt ++ ", " ++ regname rs ++ ", " ++ hexs (sext16 imm)))

/-- andi, ori, xori: selector, fields, printed text (raw immediate) and whole effect. Rests on 47_immediate.md R305, 47_immediate.md R306, 47_immediate.md R307. Derived, not stated: the rules mark these as the spec's own decisions and not the source's words: D5, D6, D10, D15, D16, D17, D22 (92_eei_decisions.md). -/
def Obligations.ImmediateLogicalDecodesAndPrints : Prop :=
  Selects 0x30000000#32 0xFC000000#32 (fun w => .andi (rsOf w) (rtOf w) (immOf w)) ∧
  Selects 0x34000000#32 0xFC000000#32 (fun w => .ori (rsOf w) (rtOf w) (immOf w)) ∧
  Selects 0x38000000#32 0xFC000000#32 (fun w => .xori (rsOf w) (rtOf w) (immOf w)) ∧
  (∀ (rs rt : RegIndex) (imm : Imm16),
    Completes (.andi rs rt imm) "andi" .I
      (regname rt ++ ", " ++ regname rs ++ ", " ++ hexu imm.toNat) ∧
    Completes (.ori rs rt imm) "ori" .I
      (regname rt ++ ", " ++ regname rs ++ ", " ++ hexu imm.toNat) ∧
    Completes (.xori rs rt imm) "xori" .I
      (regname rt ++ ", " ++ regname rs ++ ", " ++ hexu imm.toNat))

/-- lui, llo, lhi: selector, fields, printed text (rt, raw immediate) and whole effect, rs ignored. Rests on 47_immediate.md R308, 47_immediate.md R309, 47_immediate.md R310. Derived, not stated: the rules mark these as the spec's own decisions and not the source's words: D5, D6, D10, D11, D15, D16, D17, D22 (92_eei_decisions.md). -/
def Obligations.LoadImmediateDecodesAndPrints : Prop :=
  Selects 0x3C000000#32 0xFC000000#32 (fun w => .lui (rsOf w) (rtOf w) (immOf w)) ∧
  Selects 0x60000000#32 0xFC000000#32 (fun w => .llo (rsOf w) (rtOf w) (immOf w)) ∧
  Selects 0x64000000#32 0xFC000000#32 (fun w => .lhi (rsOf w) (rtOf w) (immOf w)) ∧
  (∀ (rs rt : RegIndex) (imm : Imm16),
    Completes (.lui rs rt imm) "lui" .I
      (regname rt ++ ", " ++ hexu imm.toNat) ∧
    Completes (.llo rs rt imm) "llo" .I
      (regname rt ++ ", " ++ hexu imm.toNat) ∧
    Completes (.lhi rs rt imm) "lhi" .I
      (regname rt ++ ", " ++ hexu imm.toNat))

/-- trap: selector, code, printed text and whole effect; no trap is raised. Rests on 47_immediate.md R311. Derived, not stated: the rules mark these as the spec's own decisions and not the source's words: D5, D6, D11, D16, D17, D20, D22 (92_eei_decisions.md). -/
def Obligations.TrapDecodesAndPrints : Prop :=
  Selects 0x68000000#32 0xFC000000#32 (fun w => .trap (targetOf w)) ∧
  (∀ (target : Target26),
    Completes (.trap target) "trap" .J
      (hexu target.toNat))

/-- lb, lh, lw, lbu, lhu: selector, fields, printed text and whole effect; no memory is read. Rests on 48_loadstore.md R321, 48_loadstore.md R322, 48_loadstore.md R323, 48_loadstore.md R324, 48_loadstore.md R325. Derived, not stated: the rules mark these as the spec's own decisions and not the source's words: D5, D6, D10, D12, D16, D17, D22 (92_eei_decisions.md). -/
def Obligations.LoadsDecodeAndPrint : Prop :=
  Selects 0x80000000#32 0xFC000000#32 (fun w => .lb (rsOf w) (rtOf w) (immOf w)) ∧
  Selects 0x84000000#32 0xFC000000#32 (fun w => .lh (rsOf w) (rtOf w) (immOf w)) ∧
  Selects 0x8C000000#32 0xFC000000#32 (fun w => .lw (rsOf w) (rtOf w) (immOf w)) ∧
  Selects 0x90000000#32 0xFC000000#32 (fun w => .lbu (rsOf w) (rtOf w) (immOf w)) ∧
  Selects 0x94000000#32 0xFC000000#32 (fun w => .lhu (rsOf w) (rtOf w) (immOf w)) ∧
  (∀ (rs rt : RegIndex) (imm : Imm16),
    Completes (.lb rs rt imm) "lb" .I
      (regname rt ++ ", " ++ hexs (sext16 imm) ++ "(" ++ regname rs ++ ")") ∧
    Completes (.lh rs rt imm) "lh" .I
      (regname rt ++ ", " ++ hexs (sext16 imm) ++ "(" ++ regname rs ++ ")") ∧
    Completes (.lw rs rt imm) "lw" .I
      (regname rt ++ ", " ++ hexs (sext16 imm) ++ "(" ++ regname rs ++ ")") ∧
    Completes (.lbu rs rt imm) "lbu" .I
      (regname rt ++ ", " ++ hexs (sext16 imm) ++ "(" ++ regname rs ++ ")") ∧
    Completes (.lhu rs rt imm) "lhu" .I
      (regname rt ++ ", " ++ hexs (sext16 imm) ++ "(" ++ regname rs ++ ")"))

/-- sb, sh, sw: selector, fields, printed text and whole effect; no memory is written. Rests on 48_loadstore.md R326, 48_loadstore.md R327, 48_loadstore.md R328. Derived, not stated: the rules mark these as the spec's own decisions and not the source's words: D5, D6, D10, D12, D16, D17, D22 (92_eei_decisions.md). -/
def Obligations.StoresDecodeAndPrint : Prop :=
  Selects 0xA0000000#32 0xFC000000#32 (fun w => .sb (rsOf w) (rtOf w) (immOf w)) ∧
  Selects 0xA4000000#32 0xFC000000#32 (fun w => .sh (rsOf w) (rtOf w) (immOf w)) ∧
  Selects 0xAC000000#32 0xFC000000#32 (fun w => .sw (rsOf w) (rtOf w) (immOf w)) ∧
  (∀ (rs rt : RegIndex) (imm : Imm16),
    Completes (.sb rs rt imm) "sb" .I
      (regname rt ++ ", " ++ hexs (sext16 imm) ++ "(" ++ regname rs ++ ")") ∧
    Completes (.sh rs rt imm) "sh" .I
      (regname rt ++ ", " ++ hexs (sext16 imm) ++ "(" ++ regname rs ++ ")") ∧
    Completes (.sw rs rt imm) "sw" .I
      (regname rt ++ ", " ++ hexs (sext16 imm) ++ "(" ++ regname rs ++ ")"))

/-- ll, sc: selector, fields, printed text and whole effect; no reservation is set or tested. Rests on 48_loadstore.md R329, 48_loadstore.md R330. Derived, not stated: the rules mark these as the spec's own decisions and not the source's words: D5, D6, D10, D16, D17, D22 (92_eei_decisions.md). -/
def Obligations.LinkedPairDecodesAndPrints : Prop :=
  Selects 0xC0000000#32 0xFC000000#32 (fun w => .ll (rsOf w) (rtOf w) (immOf w)) ∧
  Selects 0xE0000000#32 0xFC000000#32 (fun w => .sc (rsOf w) (rtOf w) (immOf w)) ∧
  (∀ (rs rt : RegIndex) (imm : Imm16),
    Completes (.ll rs rt imm) "ll" .I
      (regname rt ++ ", " ++ hexs (sext16 imm) ++ "(" ++ regname rs ++ ")") ∧
    Completes (.sc rs rt imm) "sc" .I
      (regname rt ++ ", " ++ hexs (sext16 imm) ++ "(" ++ regname rs ++ ")"))

/-- A word is rejected exactly when its selector is in one of the four reserved lists, with its raw opcode and function. Rests on 30_encoding.md R53, 43_special.md R228, 44_regimm.md R251, 45_special2.md R268, 41_dispatch.md R75. Derived, not stated: the rules mark these as the spec's own decisions and not the source's words: D13, D23 (92_eei_decisions.md). -/
def Obligations.ReservedSpaceIsExact : Prop :=
  ∀ w : Word,
    ((∃ e, decodeWord w = .error e) ↔
      (opcodeOf w).toNat ∈ [0x10, 0x11, 0x12, 0x13, 0x14, 0x15, 0x16, 0x17, 0x1B, 0x1D, 0x1E, 0x1F, 0x22, 0x26, 0x27, 0x2A,
          0x2C, 0x2D, 0x2E, 0x2F, 0x31, 0x32, 0x33, 0x34, 0x35, 0x36, 0x37] ∨
      0x39 ≤ (opcodeOf w).toNat ∨
      (opcodeOf w = 0x00#6 ∧
        ((functOf w).toNat ∈ [0x01, 0x05, 0x0A, 0x0B, 0x0C, 0x0D, 0x0E, 0x0F, 0x14, 0x15, 0x16, 0x17, 0x1C, 0x1D, 0x1E,
          0x1F, 0x28, 0x29] ∨ 0x2C ≤ (functOf w).toNat)) ∨
      (opcodeOf w = 0x01#6 ∧
        ((rtOf w).toNat ∈ [0x02, 0x03, 0x04, 0x05, 0x06, 0x07, 0x0D, 0x0F] ∨ 0x12 ≤ (rtOf w).toNat)) ∨
      (opcodeOf w = 0x1C#6 ∧
        ((functOf w).toNat = 0x03 ∨ (0x06 ≤ (functOf w).toNat ∧ (functOf w).toNat ≤ 0x1F) ∨ 0x22 ≤ (functOf w).toNat))) ∧
    (∀ e, decodeWord w = .error e → e = .unrecognized (opcodeOf w) (functOf w) ∧
      ∀ a : Nat, decode w a = .err (.unrecognizedInstruction a (opcodeOf w) (functOf w)))

/-- The selector fields alone fix whether a word is recognised, its mnemonic and its format tag. Rests on 30_encoding.md R54, 41_dispatch.md R77. -/
def Obligations.SelectorAloneFixesMnemonic : Prop :=
  ∀ (w v : Word) (a b : Nat) (d : DecodedInstruction), w ≠ 0x00000000#32 → v ≠ 0x00000000#32 → opcodeOf w = opcodeOf v →
    (opcodeOf w = 0x00#6 ∨ opcodeOf w = 0x1C#6 → functOf w = functOf v) →
    (opcodeOf w = 0x01#6 → rtOf w = rtOf v) →
    decode w a = .ok d → ∃ d', decode v b = .ok d' ∧ d'.mnemonic = d.mnemonic ∧ d'.format = d.format

/-- decode returns for every word and address, Ok at that address or UnrecognizedInstruction, and nothing else. Formalises R70. -/
def Obligations.DecodeIsTotalWithOneError : Prop :=
  ∀ (w : Word) (a : Nat),
    (∃ d, decode w a = .ok d ∧ d.address = a) ∨
    decode w a = .err (.unrecognizedInstruction a (opcodeOf w) (functOf w))

/-- Two equal words at different addresses give equal mnemonics, formats and operand texts. Formalises R117. -/
def Obligations.AddressIsOnlyALabel : Prop :=
  ∀ (w : Word) (a b : Nat) (d : DecodedInstruction), decode w a = .ok d →
    decode w b = .ok { address := b, mnemonic := d.mnemonic, format := d.format, operandText := d.operandText } ∧
    ∃ (c : OperandClass) (f : Fields), fieldsOf w = .ok f ∧ d.operandText = formatOperands c f

/-- Decoding the word of any well-formed instruction gives the instruction back, with every field. Rests on 30_encoding.md R43 to R45, 30_encoding.md R49 to R55. -/
def Obligations.DecodeOfEncodeIsIdentity : Prop :=
  ∀ i : Instr, i.wf = true → decodeWord (encode i) = .ok i

/-- Every recognised word is the word of the instruction it decodes to, which is well-formed: no bit is dropped or shared. Rests on 41_dispatch.md R74, 30_encoding.md R49 to R55. -/
def Obligations.EncodeOfDecodeIsIdentity : Prop :=
  ∀ (w : Word) (i : Instr), decodeWord w = .ok i → i.wf = true ∧ encode i = w

/-- Words written out from the encodings of each family decode to the instructions they stand for. Rests on 95_test_vectors.md part 1 and part 2 section 5. -/
def Obligations.WrittenWordsDecode : Prop :=
  decodeWord 0x00000000#32 = .ok .nop ∧
  decodeWord 0x012A4020#32 = .ok (.add 9#5 10#5 8#5 0#5) ∧
  decodeWord 0x00094100#32 = .ok (.sll 0#5 9#5 8#5 4#5) ∧
  decodeWord 0x0480FFFC#32 = .ok (.bltz 4#5 0xFFFC#16) ∧
  decodeWord 0x712A4002#32 = .ok (.mul 9#5 10#5 8#5 0#5) ∧
  decodeWord 0x08000004#32 = .ok (.j 4#26) ∧
  decodeWord 0x1000FFFE#32 = .ok (.beq 0#5 0#5 0xFFFE#16) ∧
  decodeWord 0x23A8FFF0#32 = .ok (.addi 29#5 8#5 0xFFF0#16) ∧
  decodeWord 0x8FA80004#32 = .ok (.lw 29#5 8#5 4#16) ∧
  decodeWord 0x70000003#32 = .error (.unrecognized 0x1C#6 0x03#6)

/-- When the next four bytes decode to an instruction, a served step is exec of it after those bytes are taken. Rests on 49_sequencer.md R351, 49_sequencer.md R341. -/
def Obligations.StepRunsDecodedInstruction : Prop :=
  ∀ (s : State) (b0 b1 b2 b3 : Byte) (rest : List Byte) (i : Instr), s.Ready →
    s.input = b0 :: b1 :: b2 :: b3 :: rest → decodeWord (assembleWord b0 b1 b2 b3) = .ok i →
    step s = exec i { s with input := rest, consumed := s.consumed + 4 }

/-- A served step is the sequencer step of the spec with the table-driven decode: end, truncation, or one result and addr + 4. Rests on 49_sequencer.md R351, 49_sequencer.md R344, 49_sequencer.md R345, 49_sequencer.md R347. The running condition Ready adds the address width of R350 and the sink of R346; that a short chunk leaves consumed as it was is the model's choice (log entry 5). -/
def Obligations.StepIsTheSequencerStep : Prop :=
  (∀ s : State, s.Ready →
    (s.input = [] → step s = .next { s with seqState := .done }) ∧
    (0 < s.input.length → s.input.length < 4 → step s = .next { s with
      input := []
      seqState := .failed
      output := s.output ++ [.err (.truncatedInstruction s.addr)] }) ∧
    (∀ (b0 b1 b2 b3 : Byte) (rest : List Byte), s.input = b0 :: b1 :: b2 :: b3 :: rest → step s = .next { s with
      input := rest
      consumed := s.consumed + 4
      addr := s.addr + 4
      output := s.output ++ [decode (assembleWord b0 b1 b2 b3) s.addr] })) ∧
  (∀ s : State, s.seqState ≠ .run → ∀ t, step s ≠ .next t)

/-- An unrecognized word gives one Err result with address, opcode and function; addr advances by 4 and RUN goes on. Rests on 49_sequencer.md R346, 60_exceptions.md R401, 60_exceptions.md R407. -/
def Obligations.UnrecognizedWordIsEmittedAndPassedOver : Prop :=
  ∀ (s : State) (b0 b1 b2 b3 : Byte) (rest : List Byte) (e : Reject), s.Ready →
    s.input = b0 :: b1 :: b2 :: b3 :: rest → decodeWord (assembleWord b0 b1 b2 b3) = .error e →
    ∃ t, step s = .next t ∧ t.seqState = .run ∧ t.addr = s.addr + 4 ∧ t.input = rest ∧ t.consumed = s.consumed + 4 ∧
      t.params = s.params ∧
      t.output = s.output ++ [.err (.unrecognizedInstruction s.addr
        (opcodeOf (assembleWord b0 b1 b2 b3)) (functOf (assembleWord b0 b1 b2 b3)))]

/-- One to three leftover bytes raise TruncatedInstruction at addr, once, and the stream fails; no later step exists. Rests on 49_sequencer.md R345, 60_exceptions.md R402, 60_exceptions.md R407. -/
def Obligations.ShortChunkFailsTheStream : Prop :=
  ∀ s : State, s.Ready → 0 < s.input.length → s.input.length < 4 →
    ∃ t, step s = .next t ∧ t.seqState = .failed ∧ t.addr = s.addr ∧ t.input = [] ∧ t.params = s.params ∧
      t.output = s.output ++ [.err (.truncatedInstruction s.addr)] ∧ ∀ u, step t ≠ .next u

/-- In DONE and in FAILED there is no step: the machine stops by the fault of that name. Rests on 49_sequencer.md R347, 49_sequencer.md R351. -/
def Obligations.EndedSequencerHasNoStep : Prop :=
  ∀ s : State, (s.seqState = .done → step s = .fault .streamDone) ∧ (s.seqState = .failed → step s = .fault .streamFailed)

/-- addr advances by 4 exactly when a complete word is taken, whatever it decodes to, and never decreases. Formalises R342. -/
def Obligations.AddressAdvancesByFourPerWord : Prop :=
  ∀ s t : State, step s = .next t →
    (4 ≤ s.input.length → t.addr = s.addr + 4 ∧ t.input = s.input.drop 4 ∧
      ∃ r, t.output = s.output ++ [r] ∧ r.wordAddress = some s.addr) ∧
    (s.input.length < 4 → t.addr = s.addr ∧ t.input = [])

/-- Every instruction emits one Ok result at addr, advances addr by 4, and leaves all the rest of the state unchanged. Rests on 20_memory.md R27, 46_jump_branch.md R280, 60_exceptions.md R413, 43_special.md R200. -/
def Obligations.InstructionFrame : Prop :=
  ∀ (i : Instr) (s t : State), exec i s = .next t →
    t.addr = s.addr + 4 ∧ (∃ d, t.output = s.output ++ [.ok d] ∧ d.address = s.addr) ∧
    t.seqState = s.seqState ∧ t.input = s.input ∧ t.consumed = s.consumed ∧ t.params = s.params

/-- With AW bits a fresh run is refused exactly when BASE + 4*N does not fit; unbounded, never. Rests on 49_sequencer.md R350. Derived, not stated: the rules mark these as the spec's own decisions and not the source's words: D3 (92_eei_decisions.md). -/
def Obligations.OverflowingRunIsRefused : Prop :=
  (∀ (p : Params) (bytes : List Byte) (aw : Nat), p.aw = some aw →
    (step (State.fresh p bytes) = .refused .addressOverflow ↔ p.base + 4 * (bytes.length / 4) ≥ 2 ^ aw)) ∧
  (∀ (p : Params) (bytes : List Byte), p.aw = none → step (State.fresh p bytes) ≠ .refused .addressOverflow)

/-- A run inside its address width stays inside it: every step keeps the contract, so addr always fits AW bits. Rests on 49_sequencer.md R350, 10_state.md R14, 90_conflicts.md C10. -/
def Obligations.ContractIsKeptByEveryStep : Prop :=
  ∀ s t : State, step s = .next t → t.inContract = true ∧ ∀ aw, t.params.aw = some aw → t.addr < 2 ^ aw

/-- Every step keeps the run invariant: one result per word in address order, addr = BASE + consumed (log entry 5), truncation only last. Rests on 20_memory.md R28, 49_sequencer.md R343 to R345, 10_state.md R14, 60_exceptions.md R410, log entry 5. That addr = BASE + consumed holds in FAILED too is the model's choice (log entry 5): the leftover bytes of a short chunk are not counted. -/
def Obligations.EveryStepKeepsTheRunInvariant : Prop :=
  ∀ s t : State, s.Inv → step s = .next t → t.Inv

/-- Reset meets the run invariant, with every parameter and every attached stream. Rests on 70_reset_and_hazards.md R451. -/
def Obligations.FreshRunsMeetTheRunInvariant : Prop :=
  (∀ (p : Params) (bytes : List Byte), (State.fresh p bytes).Inv) ∧ State.reset.Inv

/-- From any served state, N + 1 steps emit exactly decode of each word in address order, then end DONE or FAILED. Rests on 49_sequencer.md R343. Derived, not stated: the rules mark these as the spec's own decisions and not the source's words: D24 (92_eei_decisions.md). -/
def Obligations.WholeRunEmitsOneResultPerWord : Prop :=
  ∀ s : State, s.Ready → s.params.unrecPolicy = .continues →
    (∃ t, core.run (s.input.length / 4 + 1) s = .next t ∧
      t.output = s.output ++ streamResults s.input s.addr ∧ t.addr = s.addr + 4 * (s.input.length / 4) ∧
      t.input = [] ∧ t.params = s.params ∧
      t.seqState = (if s.input.length % 4 = 0 then .done else .failed)) ∧
    (∃ words, WordResultsFrom s.addr words ∧ words.length = s.input.length / 4 ∧
      streamResults s.input s.addr = words ++
        (if s.input.length % 4 = 0 then [] else [.err (.truncatedInstruction (s.addr + 4 * (s.input.length / 4)))]))

/-- The result for a word depends on that word and its address alone, not on earlier words, later bytes or parameters. Formalises R29. -/
def Obligations.ResultDependsOnWordAndAddressOnly : Prop :=
  ∀ (s t : State) (b0 b1 b2 b3 : Byte) (rs rt : List Byte), s.Ready → t.Ready → s.addr = t.addr →
    s.input = b0 :: b1 :: b2 :: b3 :: rs → t.input = b0 :: b1 :: b2 :: b3 :: rt →
    ∃ s' t' r, step s = .next s' ∧ step t = .next t' ∧ s'.output = s.output ++ [r] ∧ t'.output = t.output ++ [r]

/-- A request is served exactly when the sequencer runs, the sink asks and the run fits: no word makes the machine stop. Rests on 60_exceptions.md R404, 41_dispatch.md R70, log entries 6, 7 and 8. -/
def Obligations.ServedExactlyWhenReady : Prop :=
  ∀ s : State, (∃ t, step s = .next t) ↔ s.Ready

/-- No step refuses for a field range or emits FieldRangeViolation. Formalises R403. -/
def Obligations.FieldRangeViolationIsUnreachable : Prop :=
  (∀ w : Word, ∃ f, fieldsOf w = .ok f) ∧
  ∀ s : State, step s ≠ .refused .fieldRangeViolation ∧
    ∀ t, step s = .next t → DecodeResult.err .fieldRangeViolation ∈ t.output → DecodeResult.err .fieldRangeViolation ∈ s.output

/-- No step changes a parameter or an emitted result: the output only grows, by at most one result. Rests on 10_state.md R15, 10_state.md R17, 20_memory.md R28. -/
def Obligations.ParametersAndHistoryAreKept : Prop :=
  ∀ s t : State, step s = .next t →
    t.params = s.params ∧ (t.output = s.output ∨ ∃ r, t.output = s.output ++ [r])

/-- Every mnemonic and operand text the decoder emits is printable 7-bit ASCII and holds no upper-case letter. Rests on 00_scope.md R6. -/
def Obligations.TextsAreLowerCaseAscii : Prop :=
  ∀ (w : Word) (a : Nat) (d : DecodedInstruction), decode w a = .ok d →
    ∀ c ∈ d.mnemonic.toList ++ d.operandText.toList, 32 ≤ c.toNat ∧ c.toNat ≤ 126 ∧ ¬ (65 ≤ c.toNat ∧ c.toNat ≤ 90)

/-- Operand texts have at most 21 characters and mnemonics 1 to 6, and both bounds are reached. Rests on 41_dispatch.md R80, 90_conflicts.md C9. -/
def Obligations.TextsAreBounded : Prop :=
  (∀ (w : Word) (a : Nat) (d : DecodedInstruction), decode w a = .ok d →
    1 ≤ d.mnemonic.length ∧ d.mnemonic.length ≤ 6 ∧ d.operandText.length ≤ 21) ∧
  decode 0x10008000#32 0 = .ok { address := 0, mnemonic := "beq", format := .I, operandText := "$zero, $zero, -0x8000" } ∧
  (∃ d, decode 0x04100000#32 0 = .ok d ∧ d.mnemonic = "bltzal")

/-- Reset: addr = BASE, RUN, nothing consumed, nothing emitted; BASE is 0, AW unbounded and the policy continue by default. Rests on 70_reset_and_hazards.md R450, 70_reset_and_hazards.md R451, 00_scope.md R3. -/
def Obligations.ResetState : Prop :=
  (∀ (p : Params) (bytes : List Byte) (s : State), State.openStream p bytes s =
    { params := p, addr := p.base, seqState := .run, input := bytes, consumed := 0, output := [] }) ∧
  State.reset = State.mk { base := 0, aw := none, unrecPolicy := .continues } 0 .run [] 0 []

/-- The port view of decode: addr_o equals addr_i, ok_o tells Ok from Err, the error ports are bits 31:26 and 5:0. Rests on 41_dispatch.md R80, 60_exceptions.md R400. -/
def Obligations.PortsAndCodesFollowTheResult : Prop :=
  ∀ (w : Word) (a : Nat), addrO w a = a ∧ (okO w a = true ↔ (decode w a).code = 0) ∧
    (okO w a = true → (∃ d, decode w a = .ok d ∧ mnemonicO w a = some d.mnemonic ∧ formatO w a = some d.format ∧
      operandsO w a = some d.operandText) ∧ errOpcodeO w a = none ∧ errFunctionO w a = none) ∧
    (okO w a = false → (decode w a).code = 1 ∧ errOpcodeO w a = some (opcodeOf w) ∧ errFunctionO w a = some (functOf w) ∧
      mnemonicO w a = none ∧ formatO w a = none ∧ operandsO w a = none)

/-- The text line is the mnemonic alone, or the mnemonic, one space and the operand text. Rests on 42_formatter.md R94, 30_encoding.md R57. -/
def Obligations.LineIsMnemonicThenOperands : Prop :=
  (∀ d : DecodedInstruction, (d.operandText = "" → d.line = d.mnemonic) ∧
    (d.operandText ≠ "" → d.line = d.mnemonic ++ " " ++ d.operandText)) ∧
  (∃ d, decode 0x00000000#32 0 = .ok d ∧ d.line = "nop") ∧
  (∃ d, decode 0x012A4020#32 0 = .ok d ∧ d.line = "add $t0, $t1, $t2")

/-- With UNREC_POLICY abort no step follows an unrecognized word; with continue the sink always asks. Rests on 49_sequencer.md R346, 95_test_vectors.md P2. -/
def Obligations.AbortingSinkAsksNoMore : Prop :=
  (∀ (s : State) (rs : List DecodeResult) (a : Nat) (o f : BitVec 6), s.params.unrecPolicy = .aborts → s.seqState = .run →
    s.output = rs ++ [.err (.unrecognizedInstruction a o f)] → step s = .fault .sinkStopped) ∧
  (∀ s : State, s.params.unrecPolicy = .continues → s.sinkAsks = true) ∧
  (∀ s : State, (∀ a o f, s.output.getLast? ≠ some (.err (.unrecognizedInstruction a o f))) → s.sinkAsks = true)
end

