-- ==== Sys2Proof/Laws/Decode.lean ====
section
/-! SUPPORT. The extractor on its eight calls, the values of the three layouts and of an assembled word, and the slices of a
laid-out word: what later proofs cite instead of unfolding bit operations. -/

namespace Sys2Proof.Laws

/-- Within its constraints `extract` is the bit slice (40_bitfield.md R60). -/
theorem extract_ok (w : Word) (offset width : Nat) (h : 0 < width ∧ width ≤ 32 ∧ offset + width ≤ 32) :
    extract w offset width = .ok (w.extractLsb' offset width) := by
  rw [extract, if_pos h]
  congr 1
  apply BitVec.eq_of_getLsbD_eq
  intro i hi
  simp [hi]

/-- The eight calls are within the constraints, so the fields always exist (40_bitfield.md R61). -/
theorem fieldsOf_ok (w : Word) : fieldsOf w = .ok
    { opcode := w.extractLsb' 26 6, rs := w.extractLsb' 21 5, rt := w.extractLsb' 16 5, rd := w.extractLsb' 11 5,
      shamt := w.extractLsb' 6 5, funct := w.extractLsb' 0 6, imm := w.extractLsb' 0 16, target := w.extractLsb' 0 26 } :=
  rfl

theorem append_toNat {m n : Nat} (x : BitVec m) (y : BitVec n) : (x ++ y).toNat = x.toNat * 2 ^ n + y.toNat := by
  rw [BitVec.toNat_append, ← Nat.shiftLeft_add_eq_or_of_lt y.isLt, Nat.shiftLeft_eq]

theorem slice_toNat (w : Word) (start len : Nat) : (w.extractLsb' start len).toNat = w.toNat / 2 ^ start % 2 ^ len := by
  rw [BitVec.extractLsb'_toNat, Nat.shiftRight_eq_div_pow]

theorem assembleWord_toNat (b0 b1 b2 b3 : Byte) : (assembleWord b0 b1 b2 b3).toNat =
    b0.toNat + b1.toNat * 2 ^ 8 + b2.toNat * 2 ^ 16 + b3.toNat * 2 ^ 24 := by
  change BitVec.toNat (w := 8 + 8 + 8 + 8) (b3 ++ b2 ++ b1 ++ b0) = _
  simp only [append_toNat]
  omega

theorem wordR_toNat (o : BitVec 6) (rs rt rd : RegIndex) (sh : Shamt) (fn : BitVec 6) : (wordR o rs rt rd sh fn).toNat =
    o.toNat * 2 ^ 26 + rs.toNat * 2 ^ 21 + rt.toNat * 2 ^ 16 + rd.toNat * 2 ^ 11 + sh.toNat * 2 ^ 6 + fn.toNat := by
  change BitVec.toNat (w := 6 + 5 + 5 + 5 + 5 + 6) (o ++ rs ++ rt ++ rd ++ sh ++ fn) = _
  simp only [append_toNat]
  omega

theorem wordI_toNat (o : BitVec 6) (rs rt : RegIndex) (imm : Imm16) : (wordI o rs rt imm).toNat =
    o.toNat * 2 ^ 26 + rs.toNat * 2 ^ 21 + rt.toNat * 2 ^ 16 + imm.toNat := by
  change BitVec.toNat (w := 6 + 5 + 5 + 16) (o ++ rs ++ rt ++ imm) = _
  simp only [append_toNat]
  omega

theorem wordJ_toNat (o : BitVec 6) (target : Target26) : (wordJ o target).toNat = o.toNat * 2 ^ 26 + target.toNat := by
  change BitVec.toNat (w := 6 + 26) (o ++ target) = _
  simp only [append_toNat]

/-- Laying the slices of a word out again gives the word (20_memory.md R21). -/
theorem assembleWord_slices (w : Word) :
    assembleWord (w.extractLsb' 0 8) (w.extractLsb' 8 8) (w.extractLsb' 16 8) (w.extractLsb' 24 8) = w := by
  apply BitVec.eq_of_toNat_eq
  simp only [assembleWord_toNat, slice_toNat]
  omega

@[simp] theorem wordR_opcode (o : BitVec 6) (rs rt rd : RegIndex) (sh : Shamt) (fn : BitVec 6) : (wordR o rs rt rd sh fn).extractLsb' 26 6 = o := by
  apply BitVec.eq_of_toNat_eq
  rw [slice_toNat, wordR_toNat]
  omega

@[simp] theorem wordR_rs (o : BitVec 6) (rs rt rd : RegIndex) (sh : Shamt) (fn : BitVec 6) : (wordR o rs rt rd sh fn).extractLsb' 21 5 = rs := by
  apply BitVec.eq_of_toNat_eq
  rw [slice_toNat, wordR_toNat]
  omega

@[simp] theorem wordR_rt (o : BitVec 6) (rs rt rd : RegIndex) (sh : Shamt) (fn : BitVec 6) : (wordR o rs rt rd sh fn).extractLsb' 16 5 = rt := by
  apply BitVec.eq_of_toNat_eq
  rw [slice_toNat, wordR_toNat]
  omega

@[simp] theorem wordR_rd (o : BitVec 6) (rs rt rd : RegIndex) (sh : Shamt) (fn : BitVec 6) : (wordR o rs rt rd sh fn).extractLsb' 11 5 = rd := by
  apply BitVec.eq_of_toNat_eq
  rw [slice_toNat, wordR_toNat]
  omega

@[simp] theorem wordR_shamt (o : BitVec 6) (rs rt rd : RegIndex) (sh : Shamt) (fn : BitVec 6) : (wordR o rs rt rd sh fn).extractLsb' 6 5 = sh := by
  apply BitVec.eq_of_toNat_eq
  rw [slice_toNat, wordR_toNat]
  omega

@[simp] theorem wordR_funct (o : BitVec 6) (rs rt rd : RegIndex) (sh : Shamt) (fn : BitVec 6) : (wordR o rs rt rd sh fn).extractLsb' 0 6 = fn := by
  apply BitVec.eq_of_toNat_eq
  rw [slice_toNat, wordR_toNat]
  omega

@[simp] theorem wordI_opcode (o : BitVec 6) (rs rt : RegIndex) (imm : Imm16) : (wordI o rs rt imm).extractLsb' 26 6 = o := by
  apply BitVec.eq_of_toNat_eq
  rw [slice_toNat, wordI_toNat]
  omega

@[simp] theorem wordI_rs (o : BitVec 6) (rs rt : RegIndex) (imm : Imm16) : (wordI o rs rt imm).extractLsb' 21 5 = rs := by
  apply BitVec.eq_of_toNat_eq
  rw [slice_toNat, wordI_toNat]
  omega

@[simp] theorem wordI_rt (o : BitVec 6) (rs rt : RegIndex) (imm : Imm16) : (wordI o rs rt imm).extractLsb' 16 5 = rt := by
  apply BitVec.eq_of_toNat_eq
  rw [slice_toNat, wordI_toNat]
  omega

@[simp] theorem wordI_imm (o : BitVec 6) (rs rt : RegIndex) (imm : Imm16) : (wordI o rs rt imm).extractLsb' 0 16 = imm := by
  apply BitVec.eq_of_toNat_eq
  rw [slice_toNat, wordI_toNat]
  omega

@[simp] theorem wordJ_opcode (o : BitVec 6) (target : Target26) : (wordJ o target).extractLsb' 26 6 = o := by
  apply BitVec.eq_of_toNat_eq
  rw [slice_toNat, wordJ_toNat]
  omega

@[simp] theorem wordJ_target (o : BitVec 6) (target : Target26) : (wordJ o target).extractLsb' 0 26 = target := by
  apply BitVec.eq_of_toNat_eq
  rw [slice_toNat, wordJ_toNat]
  omega

/-- A word is its R layout, its I layout and its J layout. -/
theorem wordR_slices (w : Word) : wordR (w.extractLsb' 26 6) (w.extractLsb' 21 5) (w.extractLsb' 16 5)
    (w.extractLsb' 11 5) (w.extractLsb' 6 5) (w.extractLsb' 0 6) = w := by
  apply BitVec.eq_of_toNat_eq
  simp only [wordR_toNat, slice_toNat]
  omega

theorem wordI_slices (w : Word) :
    wordI (w.extractLsb' 26 6) (w.extractLsb' 21 5) (w.extractLsb' 16 5) (w.extractLsb' 0 16) = w := by
  apply BitVec.eq_of_toNat_eq
  simp only [wordI_toNat, slice_toNat]
  omega

theorem wordJ_slices (w : Word) : wordJ (w.extractLsb' 26 6) (w.extractLsb' 0 26) = w := by
  apply BitVec.eq_of_toNat_eq
  simp only [wordJ_toNat, slice_toNat]
  omega

end Sys2Proof.Laws
end

