-- ==== Sys2Proof/Laws/State.lean ====
section
/-! SUPPORT. One lemma per field per update of State, so that no proof unfolds a record update. -/

namespace Sys2Proof.Machine

@[simp] theorem State.emit_params (r : DecodeResult) (s : State) : (s.emit r).params = s.params := rfl
@[simp] theorem State.emit_addr (r : DecodeResult) (s : State) : (s.emit r).addr = s.addr := rfl
@[simp] theorem State.emit_seqState (r : DecodeResult) (s : State) : (s.emit r).seqState = s.seqState := rfl
@[simp] theorem State.emit_input (r : DecodeResult) (s : State) : (s.emit r).input = s.input := rfl
@[simp] theorem State.emit_consumed (r : DecodeResult) (s : State) : (s.emit r).consumed = s.consumed := rfl
@[simp] theorem State.emit_output (r : DecodeResult) (s : State) : (s.emit r).output = s.output ++ [r] := rfl

@[simp] theorem State.advance_params (s : State) : s.advance.params = s.params := rfl
@[simp] theorem State.advance_addr (s : State) : s.advance.addr = s.addr + 4 := rfl
@[simp] theorem State.advance_seqState (s : State) : s.advance.seqState = s.seqState := rfl
@[simp] theorem State.advance_input (s : State) : s.advance.input = s.input := rfl
@[simp] theorem State.advance_consumed (s : State) : s.advance.consumed = s.consumed := rfl
@[simp] theorem State.advance_output (s : State) : s.advance.output = s.output := rfl

@[simp] theorem State.finish_params (s : State) : s.finish.params = s.params := rfl
@[simp] theorem State.finish_addr (s : State) : s.finish.addr = s.addr := rfl
@[simp] theorem State.finish_seqState (s : State) : s.finish.seqState = .done := rfl
@[simp] theorem State.finish_input (s : State) : s.finish.input = s.input := rfl
@[simp] theorem State.finish_consumed (s : State) : s.finish.consumed = s.consumed := rfl
@[simp] theorem State.finish_output (s : State) : s.finish.output = s.output := rfl

@[simp] theorem State.fail_params (s : State) : s.fail.params = s.params := rfl
@[simp] theorem State.fail_addr (s : State) : s.fail.addr = s.addr := rfl
@[simp] theorem State.fail_seqState (s : State) : s.fail.seqState = .failed := rfl
@[simp] theorem State.fail_input (s : State) : s.fail.input = s.input := rfl
@[simp] theorem State.fail_consumed (s : State) : s.fail.consumed = s.consumed := rfl
@[simp] theorem State.fail_output (s : State) : s.fail.output = s.output := rfl

@[simp] theorem State.fresh_params (p : Params) (bytes : List Byte) : (State.fresh p bytes).params = p := rfl
@[simp] theorem State.fresh_addr (p : Params) (bytes : List Byte) : (State.fresh p bytes).addr = p.base := rfl
@[simp] theorem State.fresh_seqState (p : Params) (bytes : List Byte) : (State.fresh p bytes).seqState = .run := rfl
@[simp] theorem State.fresh_input (p : Params) (bytes : List Byte) : (State.fresh p bytes).input = bytes := rfl
@[simp] theorem State.fresh_consumed (p : Params) (bytes : List Byte) : (State.fresh p bytes).consumed = 0 := rfl
@[simp] theorem State.fresh_output (p : Params) (bytes : List Byte) : (State.fresh p bytes).output = [] := rfl

end Sys2Proof.Machine
end

