-- ==== Sys2Proof/Laws/Ops.lean ====
section
/-! SUPPORT. What each shared operation can do, said once: later proofs cite these and unfold nothing. -/

namespace Sys2Proof.Machine

/-- `complete` always answers a next state, and that state differs from `s` in `addr` and `output` alone. -/
theorem complete_eq (m : Text) (f : Format) (t : Text) (s : State) :
    complete m f t s = .next { s with addr := s.addr + 4, output := s.output ++ [.ok ⟨s.addr, m, f, t⟩] } := rfl

theorem raise_unrecognized (a : Nat) (o f : BitVec 6) (s : State) :
    raise (.unrecognizedInstruction a o f) s =
      .next { s with addr := s.addr + 4, output := s.output ++ [.err (.unrecognizedInstruction a o f)] } := rfl

theorem raise_truncated (a : Nat) (s : State) :
    raise (.truncatedInstruction a) s =
      .next { s with seqState := .failed, output := s.output ++ [.err (.truncatedInstruction a)] } := rfl

/-- If raising an error answers a next state, it was one of the two errors with an effect (60_exceptions.md R407). -/
theorem raise_next {e : DecodeError} {s t : State} (h : raise e s = .next t) :
    (∃ a o f, e = .unrecognizedInstruction a o f ∧ t = (s.emit (.err e)).advance) ∨
    (∃ a, e = .truncatedInstruction a ∧ t = (s.emit (.err e)).fail) := by
  cases e with
  | unrecognizedInstruction a o f => cases h; exact .inl ⟨a, o, f, rfl, rfl⟩
  | truncatedInstruction a => cases h; exact .inr ⟨a, rfl, rfl⟩
  | fieldRangeViolation => cases h

/-- The front of the stream is nothing, a short chunk or four bytes (49_sequencer.md R351). -/
theorem fetch_cases (s : State) :
    (s.input = [] ∧ fetch s = .exhausted s) ∨
    (0 < s.input.length ∧ s.input.length < 4 ∧ fetch s = .short { s with input := [] }) ∨
    (∃ b0 b1 b2 b3 rest, s.input = b0 :: b1 :: b2 :: b3 :: rest ∧
      fetch s = .word (assembleWord b0 b1 b2 b3) { s with input := rest, consumed := s.consumed + 4 }) := by
  unfold fetch
  match s.input with
  | [] => simp
  | [_] => simp
  | [_, _] => simp
  | [_, _, _] => simp
  | b0 :: b1 :: b2 :: b3 :: rest => simp

/-- Every instruction completes: its meaning is one call of `complete` (20_memory.md R27, 60_exceptions.md R413). -/
theorem exec_is_complete (i : Instr) (s : State) : ∃ m f t, exec i s = complete m f t s := by
  cases i <;> exact ⟨_, _, _, rfl⟩

/-- If `step` answers a next state, the request was served. -/
theorem step_next {s t : State} (h : step s = .next t) :
    s.seqState = .run ∧ s.sinkAsks = true ∧ s.inContract = true ∧ serve s = .next t := by
  unfold step at h
  split at h
  · cases h
  · cases h
  · rename_i hr
    split at h
    · rename_i ha
      split at h
      · exact ⟨hr, ha, ‹_›, h⟩
      · cases h
    · cases h

/-- A request that is served is `serve`. -/
theorem step_of_ready {s : State} (hr : s.seqState = .run) (ha : s.sinkAsks = true) (hc : s.inContract = true) :
    step s = serve s := by
  simp [step, hr, ha, hc]

/-- What serving one decoded word does: one result at the state's address is emitted, `addr` moves on by 4, and nothing
else is changed (49_sequencer.md R342, R351). -/
theorem serve_word_cases (w : Word) (s : State) :
    ∃ r, ((∃ d, r = .ok d ∧ d.address = s.addr) ∨ (∃ o f, r = .err (.unrecognizedInstruction s.addr o f))) ∧
      (match decodeWord w with
        | .ok i => exec i s
        | .error e => reject e s) = .next (s.emit r).advance := by
  rcases h : decodeWord w with e | i
  · have he : ∃ o f, e = .unrecognized o f := by
      unfold decodeWord at h
      rw [Laws.fieldsOf_ok] at h
      simp only at h
      split at h
      · cases h
      · split at h
        · cases h
        · cases h; exact ⟨_, _, rfl⟩
    obtain ⟨o, f, rfl⟩ := he
    exact ⟨_, .inr ⟨o, f, rfl⟩, rfl⟩
  · obtain ⟨m, f, t, hc⟩ := exec_is_complete i s
    exact ⟨_, .inl ⟨_, rfl, rfl⟩, hc⟩

/-- Everything a step that answers a next state can do (49_sequencer.md R351): end, fail, or one result for one word. -/
theorem step_cases {s t : State} (h : step s = .next t) :
    (s.input = [] ∧ t = s.finish) ∨
    (0 < s.input.length ∧ s.input.length < 4 ∧
      t = (({ s with input := [] } : State).emit (.err (.truncatedInstruction s.addr))).fail) ∨
    (∃ b0 b1 b2 b3 rest r, s.input = b0 :: b1 :: b2 :: b3 :: rest ∧
      ((∃ d, r = .ok d ∧ d.address = s.addr) ∨ (∃ o f, r = .err (.unrecognizedInstruction s.addr o f))) ∧
      t = (({ s with input := rest, consumed := s.consumed + 4 } : State).emit r).advance) := by
  obtain ⟨-, -, -, h⟩ := step_next h
  unfold serve at h
  obtain ⟨h0, hf⟩ | ⟨h0, h1, hf⟩ | ⟨b0, b1, b2, b3, rest, h0, hf⟩ := fetch_cases s
  · rw [hf] at h; cases h; exact .inl ⟨h0, rfl⟩
  · rw [hf] at h; cases h; exact .inr (.inl ⟨h0, h1, rfl⟩)
  · rw [hf] at h
    obtain ⟨r, hr, he⟩ := serve_word_cases (assembleWord b0 b1 b2 b3) { s with input := rest, consumed := s.consumed + 4 }
    have hn := h.symm.trans he
    cases hn
    exact .inr (.inr ⟨b0, b1, b2, b3, rest, r, h0, hr, rfl⟩)

/-- A run of `k + 1` steps that begins with a next state goes on from it. -/
theorem run_step {s t : State} (h : step s = .next t) (k : Nat) : core.run (k + 1) s = core.run k t := by
  change core.step s = .next t at h
  simp [Host.Core.run, h]

end Sys2Proof.Machine
end

