-- ==== Sys2Proof/Laws/PerInstr.lean ====
section
/-! SUPPORT. Laws said of each instruction as syntax, one lemma per constructor. -/

namespace Sys2Proof.Laws

/-- The primary opcode of the instruction by 30_encoding.md R49, R50, R51, R52, R55, written out beside the encoder. -/
def primaryOpcode (i : Instr) : BitVec 6 :=
  match i with
  | .nop => 0x00#6
  | .sll _ _ _ _ => 0x00#6
  | .srl _ _ _ _ => 0x00#6
  | .sra _ _ _ _ => 0x00#6
  | .sllv _ _ _ _ => 0x00#6
  | .srlv _ _ _ _ => 0x00#6
  | .srav _ _ _ _ => 0x00#6
  | .jr _ _ _ _ => 0x00#6
  | .jalr _ _ _ _ => 0x00#6
  | .mfhi _ _ _ _ => 0x00#6
  | .mthi _ _ _ _ => 0x00#6
  | .mflo _ _ _ _ => 0x00#6
  | .mtlo _ _ _ _ => 0x00#6
  | .mult _ _ _ _ => 0x00#6
  | .multu _ _ _ _ => 0x00#6
  | .div _ _ _ _ => 0x00#6
  | .divu _ _ _ _ => 0x00#6
  | .add _ _ _ _ => 0x00#6
  | .addu _ _ _ _ => 0x00#6
  | .sub _ _ _ _ => 0x00#6
  | .subu _ _ _ _ => 0x00#6
  | .and _ _ _ _ => 0x00#6
  | .or _ _ _ _ => 0x00#6
  | .xor _ _ _ _ => 0x00#6
  | .nor _ _ _ _ => 0x00#6
  | .slt _ _ _ _ => 0x00#6
  | .sltu _ _ _ _ => 0x00#6
  | .bltz _ _ => 0x01#6
  | .bgez _ _ => 0x01#6
  | .bltzal _ _ => 0x01#6
  | .bgezal _ _ => 0x01#6
  | .tgei _ _ => 0x01#6
  | .tgeiu _ _ => 0x01#6
  | .tlti _ _ => 0x01#6
  | .tltiu _ _ => 0x01#6
  | .teqi _ _ => 0x01#6
  | .tnei _ _ => 0x01#6
  | .madd _ _ _ _ => 0x1C#6
  | .maddu _ _ _ _ => 0x1C#6
  | .mul _ _ _ _ => 0x1C#6
  | .msub _ _ _ _ => 0x1C#6
  | .msubu _ _ _ _ => 0x1C#6
  | .clz _ _ _ _ => 0x1C#6
  | .clo _ _ _ _ => 0x1C#6
  | .j _ => 0x02#6
  | .jal _ => 0x03#6
  | .beq _ _ _ => 0x04#6
  | .bne _ _ _ => 0x05#6
  | .blez _ _ _ => 0x06#6
  | .bgtz _ _ _ => 0x07#6
  | .addi _ _ _ => 0x08#6
  | .addiu _ _ _ => 0x09#6
  | .slti _ _ _ => 0x0A#6
  | .sltiu _ _ _ => 0x0B#6
  | .andi _ _ _ => 0x0C#6
  | .ori _ _ _ => 0x0D#6
  | .xori _ _ _ => 0x0E#6
  | .lui _ _ _ => 0x0F#6
  | .llo _ _ _ => 0x18#6
  | .lhi _ _ _ => 0x19#6
  | .trap _ => 0x1A#6
  | .lb _ _ _ => 0x20#6
  | .lh _ _ _ => 0x21#6
  | .lw _ _ _ => 0x23#6
  | .lbu _ _ _ => 0x24#6
  | .lhu _ _ _ => 0x25#6
  | .sb _ _ _ => 0x28#6
  | .sh _ _ _ => 0x29#6
  | .sw _ _ _ => 0x2B#6
  | .ll _ _ _ => 0x30#6
  | .sc _ _ _ => 0x38#6

/-- Bits 31:26 of the encoded word are the instruction's primary opcode (30_encoding.md R42, R49). -/
def PrimaryOpcode.Statement (i : Instr) : Prop :=
  (encode i).extractLsb' 26 6 = primaryOpcode i

theorem PrimaryOpcode.nop : PrimaryOpcode.Statement (.nop) :=
  rfl

theorem PrimaryOpcode.sll (rs rt rd : RegIndex) (shamt : Shamt) : PrimaryOpcode.Statement (.sll rs rt rd shamt) :=
  wordR_opcode ..

theorem PrimaryOpcode.srl (rs rt rd : RegIndex) (shamt : Shamt) : PrimaryOpcode.Statement (.srl rs rt rd shamt) :=
  wordR_opcode ..

theorem PrimaryOpcode.sra (rs rt rd : RegIndex) (shamt : Shamt) : PrimaryOpcode.Statement (.sra rs rt rd shamt) :=
  wordR_opcode ..

theorem PrimaryOpcode.sllv (rs rt rd : RegIndex) (shamt : Shamt) : PrimaryOpcode.Statement (.sllv rs rt rd shamt) :=
  wordR_opcode ..

theorem PrimaryOpcode.srlv (rs rt rd : RegIndex) (shamt : Shamt) : PrimaryOpcode.Statement (.srlv rs rt rd shamt) :=
  wordR_opcode ..

theorem PrimaryOpcode.srav (rs rt rd : RegIndex) (shamt : Shamt) : PrimaryOpcode.Statement (.srav rs rt rd shamt) :=
  wordR_opcode ..

theorem PrimaryOpcode.jr (rs rt rd : RegIndex) (shamt : Shamt) : PrimaryOpcode.Statement (.jr rs rt rd shamt) :=
  wordR_opcode ..

theorem PrimaryOpcode.jalr (rs rt rd : RegIndex) (shamt : Shamt) : PrimaryOpcode.Statement (.jalr rs rt rd shamt) :=
  wordR_opcode ..

theorem PrimaryOpcode.mfhi (rs rt rd : RegIndex) (shamt : Shamt) : PrimaryOpcode.Statement (.mfhi rs rt rd shamt) :=
  wordR_opcode ..

theorem PrimaryOpcode.mthi (rs rt rd : RegIndex) (shamt : Shamt) : PrimaryOpcode.Statement (.mthi rs rt rd shamt) :=
  wordR_opcode ..

theorem PrimaryOpcode.mflo (rs rt rd : RegIndex) (shamt : Shamt) : PrimaryOpcode.Statement (.mflo rs rt rd shamt) :=
  wordR_opcode ..

theorem PrimaryOpcode.mtlo (rs rt rd : RegIndex) (shamt : Shamt) : PrimaryOpcode.Statement (.mtlo rs rt rd shamt) :=
  wordR_opcode ..

theorem PrimaryOpcode.mult (rs rt rd : RegIndex) (shamt : Shamt) : PrimaryOpcode.Statement (.mult rs rt rd shamt) :=
  wordR_opcode ..

theorem PrimaryOpcode.multu (rs rt rd : RegIndex) (shamt : Shamt) : PrimaryOpcode.Statement (.multu rs rt rd shamt) :=
  wordR_opcode ..

theorem PrimaryOpcode.div (rs rt rd : RegIndex) (shamt : Shamt) : PrimaryOpcode.Statement (.div rs rt rd shamt) :=
  wordR_opcode ..

theorem PrimaryOpcode.divu (rs rt rd : RegIndex) (shamt : Shamt) : PrimaryOpcode.Statement (.divu rs rt rd shamt) :=
  wordR_opcode ..

theorem PrimaryOpcode.add (rs rt rd : RegIndex) (shamt : Shamt) : PrimaryOpcode.Statement (.add rs rt rd shamt) :=
  wordR_opcode ..

theorem PrimaryOpcode.addu (rs rt rd : RegIndex) (shamt : Shamt) : PrimaryOpcode.Statement (.addu rs rt rd shamt) :=
  wordR_opcode ..

theorem PrimaryOpcode.sub (rs rt rd : RegIndex) (shamt : Shamt) : PrimaryOpcode.Statement (.sub rs rt rd shamt) :=
  wordR_opcode ..

theorem PrimaryOpcode.subu (rs rt rd : RegIndex) (shamt : Shamt) : PrimaryOpcode.Statement (.subu rs rt rd shamt) :=
  wordR_opcode ..

theorem PrimaryOpcode.and (rs rt rd : RegIndex) (shamt : Shamt) : PrimaryOpcode.Statement (.and rs rt rd shamt) :=
  wordR_opcode ..

theorem PrimaryOpcode.or (rs rt rd : RegIndex) (shamt : Shamt) : PrimaryOpcode.Statement (.or rs rt rd shamt) :=
  wordR_opcode ..

theorem PrimaryOpcode.xor (rs rt rd : RegIndex) (shamt : Shamt) : PrimaryOpcode.Statement (.xor rs rt rd shamt) :=
  wordR_opcode ..

theorem PrimaryOpcode.nor (rs rt rd : RegIndex) (shamt : Shamt) : PrimaryOpcode.Statement (.nor rs rt rd shamt) :=
  wordR_opcode ..

theorem PrimaryOpcode.slt (rs rt rd : RegIndex) (shamt : Shamt) : PrimaryOpcode.Statement (.slt rs rt rd shamt) :=
  wordR_opcode ..

theorem PrimaryOpcode.sltu (rs rt rd : RegIndex) (shamt : Shamt) : PrimaryOpcode.Statement (.sltu rs rt rd shamt) :=
  wordR_opcode ..

theorem PrimaryOpcode.bltz (rs : RegIndex) (imm : Imm16) : PrimaryOpcode.Statement (.bltz rs imm) :=
  wordI_opcode ..

theorem PrimaryOpcode.bgez (rs : RegIndex) (imm : Imm16) : PrimaryOpcode.Statement (.bgez rs imm) :=
  wordI_opcode ..

theorem PrimaryOpcode.bltzal (rs : RegIndex) (imm : Imm16) : PrimaryOpcode.Statement (.bltzal rs imm) :=
  wordI_opcode ..

theorem PrimaryOpcode.bgezal (rs : RegIndex) (imm : Imm16) : PrimaryOpcode.Statement (.bgezal rs imm) :=
  wordI_opcode ..

theorem PrimaryOpcode.tgei (rs : RegIndex) (imm : Imm16) : PrimaryOpcode.Statement (.tgei rs imm) :=
  wordI_opcode ..

theorem PrimaryOpcode.tgeiu (rs : RegIndex) (imm : Imm16) : PrimaryOpcode.Statement (.tgeiu rs imm) :=
  wordI_opcode ..

theorem PrimaryOpcode.tlti (rs : RegIndex) (imm : Imm16) : PrimaryOpcode.Statement (.tlti rs imm) :=
  wordI_opcode ..

theorem PrimaryOpcode.tltiu (rs : RegIndex) (imm : Imm16) : PrimaryOpcode.Statement (.tltiu rs imm) :=
  wordI_opcode ..

theorem PrimaryOpcode.teqi (rs : RegIndex) (imm : Imm16) : PrimaryOpcode.Statement (.teqi rs imm) :=
  wordI_opcode ..

theorem PrimaryOpcode.tnei (rs : RegIndex) (imm : Imm16) : PrimaryOpcode.Statement (.tnei rs imm) :=
  wordI_opcode ..

theorem PrimaryOpcode.madd (rs rt rd : RegIndex) (shamt : Shamt) : PrimaryOpcode.Statement (.madd rs rt rd shamt) :=
  wordR_opcode ..

theorem PrimaryOpcode.maddu (rs rt rd : RegIndex) (shamt : Shamt) : PrimaryOpcode.Statement (.maddu rs rt rd shamt) :=
  wordR_opcode ..

theorem PrimaryOpcode.mul (rs rt rd : RegIndex) (shamt : Shamt) : PrimaryOpcode.Statement (.mul rs rt rd shamt) :=
  wordR_opcode ..

theorem PrimaryOpcode.msub (rs rt rd : RegIndex) (shamt : Shamt) : PrimaryOpcode.Statement (.msub rs rt rd shamt) :=
  wordR_opcode ..

theorem PrimaryOpcode.msubu (rs rt rd : RegIndex) (shamt : Shamt) : PrimaryOpcode.Statement (.msubu rs rt rd shamt) :=
  wordR_opcode ..

theorem PrimaryOpcode.clz (rs rt rd : RegIndex) (shamt : Shamt) : PrimaryOpcode.Statement (.clz rs rt rd shamt) :=
  wordR_opcode ..

theorem PrimaryOpcode.clo (rs rt rd : RegIndex) (shamt : Shamt) : PrimaryOpcode.Statement (.clo rs rt rd shamt) :=
  wordR_opcode ..

theorem PrimaryOpcode.j (target : Target26) : PrimaryOpcode.Statement (.j target) :=
  wordJ_opcode ..

theorem PrimaryOpcode.jal (target : Target26) : PrimaryOpcode.Statement (.jal target) :=
  wordJ_opcode ..

theorem PrimaryOpcode.beq (rs rt : RegIndex) (imm : Imm16) : PrimaryOpcode.Statement (.beq rs rt imm) :=
  wordI_opcode ..

theorem PrimaryOpcode.bne (rs rt : RegIndex) (imm : Imm16) : PrimaryOpcode.Statement (.bne rs rt imm) :=
  wordI_opcode ..

theorem PrimaryOpcode.blez (rs rt : RegIndex) (imm : Imm16) : PrimaryOpcode.Statement (.blez rs rt imm) :=
  wordI_opcode ..

theorem PrimaryOpcode.bgtz (rs rt : RegIndex) (imm : Imm16) : PrimaryOpcode.Statement (.bgtz rs rt imm) :=
  wordI_opcode ..

theorem PrimaryOpcode.addi (rs rt : RegIndex) (imm : Imm16) : PrimaryOpcode.Statement (.addi rs rt imm) :=
  wordI_opcode ..

theorem PrimaryOpcode.addiu (rs rt : RegIndex) (imm : Imm16) : PrimaryOpcode.Statement (.addiu rs rt imm) :=
  wordI_opcode ..

theorem PrimaryOpcode.slti (rs rt : RegIndex) (imm : Imm16) : PrimaryOpcode.Statement (.slti rs rt imm) :=
  wordI_opcode ..

theorem PrimaryOpcode.sltiu (rs rt : RegIndex) (imm : Imm16) : PrimaryOpcode.Statement (.sltiu rs rt imm) :=
  wordI_opcode ..

theorem PrimaryOpcode.andi (rs rt : RegIndex) (imm : Imm16) : PrimaryOpcode.Statement (.andi rs rt imm) :=
  wordI_opcode ..

theorem PrimaryOpcode.ori (rs rt : RegIndex) (imm : Imm16) : PrimaryOpcode.Statement (.ori rs rt imm) :=
  wordI_opcode ..

theorem PrimaryOpcode.xori (rs rt : RegIndex) (imm : Imm16) : PrimaryOpcode.Statement (.xori rs rt imm) :=
  wordI_opcode ..

theorem PrimaryOpcode.lui (rs rt : RegIndex) (imm : Imm16) : PrimaryOpcode.Statement (.lui rs rt imm) :=
  wordI_opcode ..

theorem PrimaryOpcode.llo (rs rt : RegIndex) (imm : Imm16) : PrimaryOpcode.Statement (.llo rs rt imm) :=
  wordI_opcode ..

theorem PrimaryOpcode.lhi (rs rt : RegIndex) (imm : Imm16) : PrimaryOpcode.Statement (.lhi rs rt imm) :=
  wordI_opcode ..

theorem PrimaryOpcode.trap (target : Target26) : PrimaryOpcode.Statement (.trap target) :=
  wordJ_opcode ..

theorem PrimaryOpcode.lb (rs rt : RegIndex) (imm : Imm16) : PrimaryOpcode.Statement (.lb rs rt imm) :=
  wordI_opcode ..

theorem PrimaryOpcode.lh (rs rt : RegIndex) (imm : Imm16) : PrimaryOpcode.Statement (.lh rs rt imm) :=
  wordI_opcode ..

theorem PrimaryOpcode.lw (rs rt : RegIndex) (imm : Imm16) : PrimaryOpcode.Statement (.lw rs rt imm) :=
  wordI_opcode ..

theorem PrimaryOpcode.lbu (rs rt : RegIndex) (imm : Imm16) : PrimaryOpcode.Statement (.lbu rs rt imm) :=
  wordI_opcode ..

theorem PrimaryOpcode.lhu (rs rt : RegIndex) (imm : Imm16) : PrimaryOpcode.Statement (.lhu rs rt imm) :=
  wordI_opcode ..

theorem PrimaryOpcode.sb (rs rt : RegIndex) (imm : Imm16) : PrimaryOpcode.Statement (.sb rs rt imm) :=
  wordI_opcode ..

theorem PrimaryOpcode.sh (rs rt : RegIndex) (imm : Imm16) : PrimaryOpcode.Statement (.sh rs rt imm) :=
  wordI_opcode ..

theorem PrimaryOpcode.sw (rs rt : RegIndex) (imm : Imm16) : PrimaryOpcode.Statement (.sw rs rt imm) :=
  wordI_opcode ..

theorem PrimaryOpcode.ll (rs rt : RegIndex) (imm : Imm16) : PrimaryOpcode.Statement (.ll rs rt imm) :=
  wordI_opcode ..

theorem PrimaryOpcode.sc (rs rt : RegIndex) (imm : Imm16) : PrimaryOpcode.Statement (.sc rs rt imm) :=
  wordI_opcode ..

end Sys2Proof.Laws
end

