-- ==== Sys2Proof/Tests/Slice0.lean ====
section
/-! SUPPORT. The model's own tests: words and texts from 95_test_vectors.md, and one witness for every statement with hypotheses. -/

namespace Sys2Proof.Tests

open Sys2Proof.Machine

/-- A fresh run with the default parameters on a stream. -/
def start (bytes : List Byte) : State := State.fresh Config.defaults bytes

/-- One step on the word `w` after reset emits one result at address 0 with this line and format, and moves `addr` to 4. -/
def shows (w : Nat) (line : Text) (format : Format) : Bool :=
  match step (State.reset.withFetchWord 32 w) with
  | .next t =>
    match t.output with
    | [.ok d] => d.line == line && d.format == format && d.address == 0 && t.addr == 4 && t.consumed == 4
    | _ => false
  | _ => false

/-! WellFormed: the one check, its ill-formed term refused, and terms beside it accepted (30_encoding.md R55). -/

theorem test_wf_sll_all_zero_refused : (Instr.sll 0 0 0 0).wf = false := by decide

theorem test_wf_sll_beside_zero : (Instr.sll 1 0 0 0).wf = true ∧ (Instr.sll 0 1 0 0).wf = true ∧
    (Instr.sll 0 0 1 0).wf = true ∧ (Instr.sll 0 0 0 1).wf = true ∧ Instr.nop.wf = true ∧ (Instr.srl 0 0 0 0).wf = true := by
  decide

/-! Decoding: the zero word and its neighbours (95_test_vectors.md part 2 section 6), the fields and the words of part 1. -/

theorem test_decode_nop : decodeTableWord 32 0 = some .nop ∧ decodeTableWord 32 0x00200000 = some (.sll 1 0 0 0) ∧
    decodeTableWord 32 0x000007C0 = some (.sll 0 0 0 31) ∧ decodeTableWord 32 0x00000001 = none := by
  decide

theorem test_fields_slices : fieldsOf 0x8FA8FFFC#32 = .ok ⟨0x23, 29, 8, 31, 31, 0x3C, 0xFFFC, 0x3A8FFFC⟩ ∧
    fieldsOf 0x55555555#32 = .ok ⟨0x15, 10, 21, 10, 21, 0x15, 0x5555, 0x1555555⟩ := by
  decide

theorem test_decode_bytes : decodeBytes [0x20, 0x40, 0x2A, 0x01, 0x99] = .ok (.add 9 10 8 0, [0x99]) ∧
    decodeBytes [0x20, 0x40, 0x2A] = .error .truncated ∧ decodeBytes [] = .error .endOfInput := by
  decide

theorem test_encode : encode (.add 9 10 8 0) = 0x012A4020#32 ∧ encode (.bltz 4 0xFFFC) = 0x0480FFFC#32 ∧
    encode (.mul 9 10 8 0) = 0x712A4002#32 ∧ encode (.j 4) = 0x08000004#32 ∧ encode (.beq 0 0 0xFFFE) = 0x1000FFFE#32 ∧
    encode (.addi 29 8 0xFFF0) = 0x23A8FFF0#32 ∧ encode (.trap 0xA) = 0x6800000A#32 ∧ encode (.lw 29 8 4) = 0x8FA80004#32 := by
  decide

theorem test_number_texts : hexs (-32768) = "-0x8000" ∧ hexs 0 = "0x0" ∧ hexu 0xABCD = "0xabcd" ∧ dec 4294967295 = "4294967295" ∧
    hexs (sext16 0x8001) = "-0x7fff" ∧ textTarget 0x2000000 = "4261412864" := by
  decide

/-! Witnesses of the statements about families: the second vector of every instruction (95_test_vectors.md part 2
section 5: ignored fields all ones, corner operands) meets its mask, and decodes to the instruction with those fields. -/

theorem witness_ShiftByAmountDecodesAndPrints :
    (0x03E00040#32 &&& 0xFC00003F#32 = 0x00000000#32 ∧ decodeTableWord 32 0x03E00040 = some (.sll 31#5 0#5 0#5 1#5)) ∧
    (0x03FFF802#32 &&& 0xFC00003F#32 = 0x00000002#32 ∧ decodeTableWord 32 0x03FFF802 = some (.srl 31#5 31#5 31#5 0#5)) ∧
    (0x03E0FFC3#32 &&& 0xFC00003F#32 = 0x00000003#32 ∧ decodeTableWord 32 0x03E0FFC3 = some (.sra 31#5 0#5 31#5 31#5)) := by
  decide

theorem witness_ShiftByRegisterDecodesAndPrints :
    (0x03FFFFC4#32 &&& 0xFC00003F#32 = 0x00000004#32 ∧ decodeTableWord 32 0x03FFFFC4 = some (.sllv 31#5 31#5 31#5 31#5)) ∧
    (0x000007C6#32 &&& 0xFC00003F#32 = 0x00000006#32 ∧ decodeTableWord 32 0x000007C6 = some (.srlv 0#5 0#5 0#5 31#5)) ∧
    (0x03E0FFC7#32 &&& 0xFC00003F#32 = 0x00000007#32 ∧ decodeTableWord 32 0x03E0FFC7 = some (.srav 31#5 0#5 31#5 31#5)) := by
  decide

theorem witness_JumpRegisterDecodesAndPrints :
    (0x001FFFC8#32 &&& 0xFC00003F#32 = 0x00000008#32 ∧ decodeTableWord 32 0x001FFFC8 = some (.jr 0#5 31#5 31#5 31#5)) ∧
    (0x001F07C9#32 &&& 0xFC00003F#32 = 0x00000009#32 ∧ decodeTableWord 32 0x001F07C9 = some (.jalr 0#5 31#5 0#5 31#5)) := by
  decide

theorem witness_HiLoMovesDecodeAndPrint :
    (0x03FFFFD0#32 &&& 0xFC00003F#32 = 0x00000010#32 ∧ decodeTableWord 32 0x03FFFFD0 = some (.mfhi 31#5 31#5 31#5 31#5)) ∧
    (0x03FFFFD1#32 &&& 0xFC00003F#32 = 0x00000011#32 ∧ decodeTableWord 32 0x03FFFFD1 = some (.mthi 31#5 31#5 31#5 31#5)) ∧
    (0x03FF07D2#32 &&& 0xFC00003F#32 = 0x00000012#32 ∧ decodeTableWord 32 0x03FF07D2 = some (.mflo 31#5 31#5 0#5 31#5)) ∧
    (0x001FFFD3#32 &&& 0xFC00003F#32 = 0x00000013#32 ∧ decodeTableWord 32 0x001FFFD3 = some (.mtlo 0#5 31#5 31#5 31#5)) := by
  decide

theorem witness_MultiplyDivideDecodeAndPrint :
    (0x03FFFFD8#32 &&& 0xFC00003F#32 = 0x00000018#32 ∧ decodeTableWord 32 0x03FFFFD8 = some (.mult 31#5 31#5 31#5 31#5)) ∧
    (0x0000FFD9#32 &&& 0xFC00003F#32 = 0x00000019#32 ∧ decodeTableWord 32 0x0000FFD9 = some (.multu 0#5 0#5 31#5 31#5)) ∧
    (0x03E0FFDA#32 &&& 0xFC00003F#32 = 0x0000001A#32 ∧ decodeTableWord 32 0x03E0FFDA = some (.div 31#5 0#5 31#5 31#5)) ∧
    (0x001FFFDB#32 &&& 0xFC00003F#32 = 0x0000001B#32 ∧ decodeTableWord 32 0x001FFFDB = some (.divu 0#5 31#5 31#5 31#5)) := by
  decide

theorem witness_AddSubtractCompareDecodeAndPrint :
    (0x03FFFFE0#32 &&& 0xFC00003F#32 = 0x00000020#32 ∧ decodeTableWord 32 0x03FFFFE0 = some (.add 31#5 31#5 31#5 31#5)) ∧
    (0x000007E1#32 &&& 0xFC00003F#32 = 0x00000021#32 ∧ decodeTableWord 32 0x000007E1 = some (.addu 0#5 0#5 0#5 31#5)) ∧
    (0x001FFFE2#32 &&& 0xFC00003F#32 = 0x00000022#32 ∧ decodeTableWord 32 0x001FFFE2 = some (.sub 0#5 31#5 31#5 31#5)) ∧
    (0x03E007E3#32 &&& 0xFC00003F#32 = 0x00000023#32 ∧ decodeTableWord 32 0x03E007E3 = some (.subu 31#5 0#5 0#5 31#5)) ∧
    (0x03FFFFEA#32 &&& 0xFC00003F#32 = 0x0000002A#32 ∧ decodeTableWord 32 0x03FFFFEA = some (.slt 31#5 31#5 31#5 31#5)) ∧
    (0x000007EB#32 &&& 0xFC00003F#32 = 0x0000002B#32 ∧ decodeTableWord 32 0x000007EB = some (.sltu 0#5 0#5 0#5 31#5)) := by
  decide

theorem witness_LogicalDecodeAndPrint :
    (0x03E0FFE4#32 &&& 0xFC00003F#32 = 0x00000024#32 ∧ decodeTableWord 32 0x03E0FFE4 = some (.and 31#5 0#5 31#5 31#5)) ∧
    (0x001F07E5#32 &&& 0xFC00003F#32 = 0x00000025#32 ∧ decodeTableWord 32 0x001F07E5 = some (.or 0#5 31#5 0#5 31#5)) ∧
    (0x0000FFE6#32 &&& 0xFC00003F#32 = 0x00000026#32 ∧ decodeTableWord 32 0x0000FFE6 = some (.xor 0#5 0#5 31#5 31#5)) ∧
    (0x03FF07E7#32 &&& 0xFC00003F#32 = 0x00000027#32 ∧ decodeTableWord 32 0x03FF07E7 = some (.nor 31#5 31#5 0#5 31#5)) := by
  decide

theorem witness_RegimmBranchesDecodeAndPrint :
    (0x07E08000#32 &&& 0xFC1F0000#32 = 0x04000000#32 ∧ decodeTableWord 32 0x07E08000 = some (.bltz 31#5 0x8000#16)) ∧
    (0x04017FFF#32 &&& 0xFC1F0000#32 = 0x04010000#32 ∧ decodeTableWord 32 0x04017FFF = some (.bgez 0#5 0x7FFF#16)) ∧
    (0x07F0FFFF#32 &&& 0xFC1F0000#32 = 0x04100000#32 ∧ decodeTableWord 32 0x07F0FFFF = some (.bltzal 31#5 0xFFFF#16)) ∧
    (0x07F10000#32 &&& 0xFC1F0000#32 = 0x04110000#32 ∧ decodeTableWord 32 0x07F10000 = some (.bgezal 31#5 0x0#16)) := by
  decide

theorem witness_TrapImmediatesDecodeAndPrint :
    (0x07E88000#32 &&& 0xFC1F0000#32 = 0x04080000#32 ∧ decodeTableWord 32 0x07E88000 = some (.tgei 31#5 0x8000#16)) ∧
    (0x0409FFFF#32 &&& 0xFC1F0000#32 = 0x04090000#32 ∧ decodeTableWord 32 0x0409FFFF = some (.tgeiu 0#5 0xFFFF#16)) ∧
    (0x07EAFFF6#32 &&& 0xFC1F0000#32 = 0x040A0000#32 ∧ decodeTableWord 32 0x07EAFFF6 = some (.tlti 31#5 0xFFF6#16)) ∧
    (0x040B8001#32 &&& 0xFC1F0000#32 = 0x040B0000#32 ∧ decodeTableWord 32 0x040B8001 = some (.tltiu 0#5 0x8001#16)) ∧
    (0x07EC7FFF#32 &&& 0xFC1F0000#32 = 0x040C0000#32 ∧ decodeTableWord 32 0x07EC7FFF = some (.teqi 31#5 0x7FFF#16)) ∧
    (0x040E0000#32 &&& 0xFC1F0000#32 = 0x040E0000#32 ∧ decodeTableWord 32 0x040E0000 = some (.tnei 0#5 0x0#16)) := by
  decide

theorem witness_MultiplyAccumulateDecodesAndPrints :
    (0x73FFFFC0#32 &&& 0xFC00003F#32 = 0x70000000#32 ∧ decodeTableWord 32 0x73FFFFC0 = some (.madd 31#5 31#5 31#5 31#5)) ∧
    (0x7000FFC1#32 &&& 0xFC00003F#32 = 0x70000001#32 ∧ decodeTableWord 32 0x7000FFC1 = some (.maddu 0#5 0#5 31#5 31#5)) ∧
    (0x73FFFFC2#32 &&& 0xFC00003F#32 = 0x70000002#32 ∧ decodeTableWord 32 0x73FFFFC2 = some (.mul 31#5 31#5 31#5 31#5)) ∧
    (0x73E0FFC4#32 &&& 0xFC00003F#32 = 0x70000004#32 ∧ decodeTableWord 32 0x73E0FFC4 = some (.msub 31#5 0#5 31#5 31#5)) ∧
    (0x701FFFC5#32 &&& 0xFC00003F#32 = 0x70000005#32 ∧ decodeTableWord 32 0x701FFFC5 = some (.msubu 0#5 31#5 31#5 31#5)) := by
  decide

theorem witness_CountLeadingDecodesAndPrints :
    (0x73FFFFE0#32 &&& 0xFC00003F#32 = 0x70000020#32 ∧ decodeTableWord 32 0x73FFFFE0 = some (.clz 31#5 31#5 31#5 31#5)) ∧
    (0x701F07E1#32 &&& 0xFC00003F#32 = 0x70000021#32 ∧ decodeTableWord 32 0x701F07E1 = some (.clo 0#5 31#5 0#5 31#5)) := by
  decide

theorem witness_JumpsDecodeAndPrint :
    (0x0BFFFFFF#32 &&& 0xFC000000#32 = 0x08000000#32 ∧ decodeTableWord 32 0x0BFFFFFF = some (.j 0x3FFFFFF#26)) ∧
    (0x0E000000#32 &&& 0xFC000000#32 = 0x0C000000#32 ∧ decodeTableWord 32 0x0E000000 = some (.jal 0x2000000#26)) := by
  decide

theorem witness_EqualityBranchesDecodeAndPrint :
    (0x13FF8000#32 &&& 0xFC000000#32 = 0x10000000#32 ∧ decodeTableWord 32 0x13FF8000 = some (.beq 31#5 31#5 0x8000#16)) ∧
    (0x141F7FFF#32 &&& 0xFC000000#32 = 0x14000000#32 ∧ decodeTableWord 32 0x141F7FFF = some (.bne 0#5 31#5 0x7FFF#16)) := by
  decide

theorem witness_SignBranchesDecodeAndPrint :
    (0x1BFF0000#32 &&& 0xFC000000#32 = 0x18000000#32 ∧ decodeTableWord 32 0x1BFF0000 = some (.blez 31#5 31#5 0x0#16)) ∧
    (0x1C1FFFFF#32 &&& 0xFC000000#32 = 0x1C000000#32 ∧ decodeTableWord 32 0x1C1FFFFF = some (.bgtz 0#5 31#5 0xFFFF#16)) := by
  decide

theorem witness_ImmediateArithmeticDecodesAndPrints :
    (0x23FF8000#32 &&& 0xFC000000#32 = 0x20000000#32 ∧ decodeTableWord 32 0x23FF8000 = some (.addi 31#5 31#5 0x8000#16)) ∧
    (0x24007FFF#32 &&& 0xFC000000#32 = 0x24000000#32 ∧ decodeTableWord 32 0x24007FFF = some (.addiu 0#5 0#5 0x7FFF#16)) ∧
    (0x281FFFFF#32 &&& 0xFC000000#32 = 0x28000000#32 ∧ decodeTableWord 32 0x281FFFFF = some (.slti 0#5 31#5 0xFFFF#16)) ∧
    (0x2FE0FFFF#32 &&& 0xFC000000#32 = 0x2C000000#32 ∧ decodeTableWord 32 0x2FE0FFFF = some (.sltiu 31#5 0#5 0xFFFF#16)) := by
  decide

theorem witness_ImmediateLogicalDecodesAndPrints :
    (0x33FF0000#32 &&& 0xFC000000#32 = 0x30000000#32 ∧ decodeTableWord 32 0x33FF0000 = some (.andi 31#5 31#5 0x0#16)) ∧
    (0x34008000#32 &&& 0xFC000000#32 = 0x34000000#32 ∧ decodeTableWord 32 0x34008000 = some (.ori 0#5 0#5 0x8000#16)) ∧
    (0x381FFFFF#32 &&& 0xFC000000#32 = 0x38000000#32 ∧ decodeTableWord 32 0x381FFFFF = some (.xori 0#5 31#5 0xFFFF#16)) := by
  decide

theorem witness_LoadImmediateDecodesAndPrints :
    (0x3FFFFFFF#32 &&& 0xFC000000#32 = 0x3C000000#32 ∧ decodeTableWord 32 0x3FFFFFFF = some (.lui 31#5 31#5 0xFFFF#16)) ∧
    (0x63E00000#32 &&& 0xFC000000#32 = 0x60000000#32 ∧ decodeTableWord 32 0x63E00000 = some (.llo 31#5 0#5 0x0#16)) ∧
    (0x67FF8000#32 &&& 0xFC000000#32 = 0x64000000#32 ∧ decodeTableWord 32 0x67FF8000 = some (.lhi 31#5 31#5 0x8000#16)) := by
  decide

theorem witness_TrapDecodesAndPrints :
    (0x6BFFFFFF#32 &&& 0xFC000000#32 = 0x68000000#32 ∧ decodeTableWord 32 0x6BFFFFFF = some (.trap 0x3FFFFFF#26)) := by
  decide

theorem witness_LoadsDecodeAndPrint :
    (0x83FF8000#32 &&& 0xFC000000#32 = 0x80000000#32 ∧ decodeTableWord 32 0x83FF8000 = some (.lb 31#5 31#5 0x8000#16)) ∧
    (0x8400FFFF#32 &&& 0xFC000000#32 = 0x84000000#32 ∧ decodeTableWord 32 0x8400FFFF = some (.lh 0#5 0#5 0xFFFF#16)) ∧
    (0x8FBFFFFC#32 &&& 0xFC000000#32 = 0x8C000000#32 ∧ decodeTableWord 32 0x8FBFFFFC = some (.lw 29#5 31#5 0xFFFC#16)) ∧
    (0x93E07FFF#32 &&& 0xFC000000#32 = 0x90000000#32 ∧ decodeTableWord 32 0x93E07FFF = some (.lbu 31#5 0#5 0x7FFF#16)) ∧
    (0x941F8001#32 &&& 0xFC000000#32 = 0x94000000#32 ∧ decodeTableWord 32 0x941F8001 = some (.lhu 0#5 31#5 0x8001#16)) := by
  decide

theorem witness_StoresDecodeAndPrint :
    (0xA0000000#32 &&& 0xFC000000#32 = 0xA0000000#32 ∧ decodeTableWord 32 0xA0000000 = some (.sb 0#5 0#5 0x0#16)) ∧
    (0xA7FF7FFF#32 &&& 0xFC000000#32 = 0xA4000000#32 ∧ decodeTableWord 32 0xA7FF7FFF = some (.sh 31#5 31#5 0x7FFF#16)) ∧
    (0xAFA08000#32 &&& 0xFC000000#32 = 0xAC000000#32 ∧ decodeTableWord 32 0xAFA08000 = some (.sw 29#5 0#5 0x8000#16)) := by
  decide

theorem witness_LinkedPairDecodesAndPrints :
    (0xC3FFFFFF#32 &&& 0xFC000000#32 = 0xC0000000#32 ∧ decodeTableWord 32 0xC3FFFFFF = some (.ll 31#5 31#5 0xFFFF#16)) ∧
    (0xE0008000#32 &&& 0xFC000000#32 = 0xE0000000#32 ∧ decodeTableWord 32 0xE0008000 = some (.sc 0#5 0#5 0x8000#16)) := by
  decide

/-! One step on the first vector of every instruction (95_test_vectors.md part 2 section 5): the line, the format, `addr`. -/

theorem test_step_special_shift_jump :
    shows 0x00000000 "nop" .R = true ∧
    shows 0x00094100 "sll $t0, $t1, 4" .R = true ∧
    shows 0x000947C2 "srl $t0, $t1, 31" .R = true ∧
    shows 0x000A5403 "sra $t2, $t2, 16" .R = true ∧
    shows 0x01494004 "sllv $t0, $t1, $t2" .R = true ∧
    shows 0x00A41006 "srlv $v0, $a0, $a1" .R = true ∧
    shows 0x02518007 "srav $s0, $s1, $s2" .R = true ∧
    shows 0x03E00008 "jr $ra" .R = true ∧
    shows 0x0320F809 "jalr $ra, $t9" .R = true := by
  refine ⟨?_, ?_, ?_, ?_, ?_, ?_, ?_, ?_, ?_⟩ <;> decide

theorem test_step_special_hilo :
    shows 0x00001010 "mfhi $v0" .R = true ∧
    shows 0x00800011 "mthi $a0" .R = true ∧
    shows 0x00001812 "mflo $v1" .R = true ∧
    shows 0x00A00013 "mtlo $a1" .R = true ∧
    shows 0x00850018 "mult $a0, $a1" .R = true ∧
    shows 0x01090019 "multu $t0, $t1" .R = true ∧
    shows 0x0085001A "div $a0, $a1" .R = true ∧
    shows 0x0211001B "divu $s0, $s1" .R = true := by
  refine ⟨?_, ?_, ?_, ?_, ?_, ?_, ?_, ?_⟩ <;> decide

theorem test_step_special_alu :
    shows 0x012A4020 "add $t0, $t1, $t2" .R = true ∧
    shows 0x00801021 "addu $v0, $a0, $zero" .R = true ∧
    shows 0x012A4022 "sub $t0, $t1, $t2" .R = true ∧
    shows 0x02328023 "subu $s0, $s1, $s2" .R = true ∧
    shows 0x012A4024 "and $t0, $t1, $t2" .R = true ∧
    shows 0x00402025 "or $a0, $v0, $zero" .R = true ∧
    shows 0x01084026 "xor $t0, $t0, $t0" .R = true ∧
    shows 0x01204027 "nor $t0, $t1, $zero" .R = true ∧
    shows 0x012A402A "slt $t0, $t1, $t2" .R = true ∧
    shows 0x0085082B "sltu $at, $a0, $a1" .R = true := by
  refine ⟨?_, ?_, ?_, ?_, ?_, ?_, ?_, ?_, ?_, ?_⟩ <;> decide

theorem test_step_regimm :
    shows 0x0480FFFC "bltz $a0, -0x4" .I = true ∧
    shows 0x05010008 "bgez $t0, 0x8" .I = true ∧
    shows 0x04900010 "bltzal $a0, 0x10" .I = true ∧
    shows 0x04110040 "bgezal $zero, 0x40" .I = true ∧
    shows 0x04880064 "tgei $a0, 0x64" .I = true ∧
    shows 0x04890064 "tgeiu $a0, 0x64" .I = true ∧
    shows 0x04AA0000 "tlti $a1, 0x0" .I = true ∧
    shows 0x04AB0001 "tltiu $a1, 0x1" .I = true ∧
    shows 0x044C000A "teqi $v0, 0xa" .I = true ∧
    shows 0x044EFFFF "tnei $v0, -0x1" .I = true := by
  refine ⟨?_, ?_, ?_, ?_, ?_, ?_, ?_, ?_, ?_, ?_⟩ <;> decide

theorem test_step_special2 :
    shows 0x70850000 "madd $a0, $a1" .R = true ∧
    shows 0x71090001 "maddu $t0, $t1" .R = true ∧
    shows 0x712A4002 "mul $t0, $t1, $t2" .R = true ∧
    shows 0x70850004 "msub $a0, $a1" .R = true ∧
    shows 0x72110005 "msubu $s0, $s1" .R = true ∧
    shows 0x71204020 "clz $t0, $t1" .R = true ∧
    shows 0x70801021 "clo $v0, $a0" .R = true := by
  refine ⟨?_, ?_, ?_, ?_, ?_, ?_, ?_⟩ <;> decide

theorem test_step_jump_branch :
    shows 0x08000004 "j 4" .J = true ∧
    shows 0x0C100000 "jal 1048576" .J = true ∧
    shows 0x1000FFFE "beq $zero, $zero, -0x2" .I = true ∧
    shows 0x15090003 "bne $t0, $t1, 0x3" .I = true ∧
    shows 0x1880FFF8 "blez $a0, -0x8" .I = true ∧
    shows 0x1C800005 "bgtz $a0, 0x5" .I = true := by
  refine ⟨?_, ?_, ?_, ?_, ?_, ?_⟩ <;> decide

theorem test_step_immediate :
    shows 0x23A8FFF0 "addi $t0, $sp, -0x10" .I = true ∧
    shows 0x27BDFFE0 "addiu $sp, $sp, -0x20" .I = true ∧
    shows 0x2928000A "slti $t0, $t1, 0xa" .I = true ∧
    shows 0x2D280001 "sltiu $t0, $t1, 0x1" .I = true ∧
    shows 0x3128FFFF "andi $t0, $t1, 0xffff" .I = true ∧
    shows 0x35081234 "ori $t0, $t0, 0x1234" .I = true ∧
    shows 0x396A8000 "xori $t2, $t3, 0x8000" .I = true ∧
    shows 0x3C081234 "lui $t0, 0x1234" .I = true ∧
    shows 0x6008BEEF "llo $t0, 0xbeef" .I = true ∧
    shows 0x6408DEAD "lhi $t0, 0xdead" .I = true ∧
    shows 0x6800000A "trap 0xa" .J = true := by
  refine ⟨?_, ?_, ?_, ?_, ?_, ?_, ?_, ?_, ?_, ?_, ?_⟩ <;> decide

theorem test_step_load_store :
    shows 0x80880000 "lb $t0, 0x0($a0)" .I = true ∧
    shows 0x84880002 "lh $t0, 0x2($a0)" .I = true ∧
    shows 0x8FA80004 "lw $t0, 0x4($sp)" .I = true ∧
    shows 0x90A90001 "lbu $t1, 0x1($a1)" .I = true ∧
    shows 0x94A90006 "lhu $t1, 0x6($a1)" .I = true ∧
    shows 0xA0880003 "sb $t0, 0x3($a0)" .I = true ∧
    shows 0xA488FFFE "sh $t0, -0x2($a0)" .I = true ∧
    shows 0xAFBFFFFC "sw $ra, -0x4($sp)" .I = true ∧
    shows 0xC0880000 "ll $t0, 0x0($a0)" .I = true ∧
    shows 0xE0880000 "sc $t0, 0x0($a0)" .I = true := by
  refine ⟨?_, ?_, ?_, ?_, ?_, ?_, ?_, ?_, ?_, ?_⟩ <;> decide

/-! The sequencer, one step each (95_test_vectors.md part 2 section 9): a reserved word, a short chunk, the end. -/

theorem test_step_unrecognized : step (start [0x3F, 0, 0x02, 0x04, 0x99]) = .next
    { start [0x99] with addr := 4, consumed := 4, output := [.err (.unrecognizedInstruction 0 0x01 0x3F)] } :=
  rfl

theorem test_step_short : step (State.fresh ⟨0x400, none, .continues⟩ [1, 2, 3]) = .next
    { State.fresh ⟨0x400, none, .continues⟩ [] with seqState := .failed, output := [.err (.truncatedInstruction 0x400)] } :=
  rfl

theorem test_step_end : step State.reset = .next { State.reset with seqState := .done } ∧
    step { State.reset with seqState := .done } = .fault .streamDone :=
  ⟨rfl, rfl⟩

/-! Witnesses of the other statements. -/

theorem witness_ExtractIsShiftAndMask :
    (0 < 1 ∧ 1 ≤ 32 ∧ 31 + 1 ≤ 32) ∧ extract 0x80000000#32 31 1 = .ok 1#1 ∧
    extract 0xDEADBEEF#32 8 16 = .ok 0xADBE#16 ∧
    ¬ (0 < 5 ∧ 5 ≤ 32 ∧ 28 + 5 ≤ 32) ∧ ¬ (0 < 0 ∧ 0 ≤ 32 ∧ 0 + 0 ≤ 32) ∧ extract 0x12345678#32 0 33 = .error .fieldRange := by
  decide

theorem witness_SignExtensionIsTwosComplement :
    (1 ≤ 5 ∧ 0x1F < 2 ^ 5 ∧ Nat.testBit 0x1F (5 - 1) = true ∧ signExtend 0x1F 5 = -1) ∧
    (1 ≤ 5 ∧ 0x0F < 2 ^ 5 ∧ Nat.testBit 0x0F (5 - 1) = false ∧ signExtend 0x0F 5 = 15) ∧
    (1 ≤ 1 ∧ 1 < 2 ^ 1 ∧ Nat.testBit 1 (1 - 1) = true ∧ signExtend 1 1 = -1) := by
  decide

theorem witness_JumpTargetIsAdjustedUnsigned :
    BitVec.getLsbD 0x2000000#26 25 = true ∧ BitVec.getLsbD 0x3FFFFFF#26 25 = true ∧
    BitVec.getLsbD 0x1FFFFFF#26 25 = false ∧ BitVec.getLsbD 0x0000000#26 25 = false := by
  decide

theorem witness_RegisterNamesAreTheTable : regname 31 = regname 31 ∧ regname 0 ≠ regname 31 := by
  decide

theorem witness_NumberTextsDenoteTheirNumbers :
    (0 : Int) ≤ 0 ∧ (-32768 : Int) < 0 ∧ (Nat.toDigits 16 0).head? = some '0' ∧ digitsValue 16 ['f', 'a'] = 250 := by
  decide

theorem witness_NopIsExactlyTheZeroWord :
    0x00000040#32 ≠ 0x00000000#32 ∧ opcodeOf 0x00000040#32 = 0x00#6 ∧ functOf 0x00000040#32 = 0x00#6 ∧
    0x03E00000#32 ≠ 0x00000000#32 ∧ opcodeOf 0x03E00000#32 = 0x00#6 ∧ functOf 0x03E00000#32 = 0x00#6 := by
  decide

/-- The ends of each reserved range are rejected (95_test_vectors.md part 2 section 7). -/
theorem witness_ReservedSpaceIsExact :
    decodeTableWord 32 0x40000000 = none ∧ decodeTableWord 32 0xDC000000 = none ∧ decodeTableWord 32 0xE4000000 = none ∧
    decodeTableWord 32 0xFC000000 = none ∧ decodeTableWord 32 0x00200001 = none ∧ decodeTableWord 32 0x00200029 = none ∧
    decodeTableWord 32 0x0020002C = none ∧ decodeTableWord 32 0x0020003F = none ∧ decodeTableWord 32 0x04020000 = none ∧
    decodeTableWord 32 0x040F0000 = none ∧ decodeTableWord 32 0x04120000 = none ∧ decodeTableWord 32 0x041F0000 = none ∧
    decodeTableWord 32 0x70000003 = none ∧ decodeTableWord 32 0x70000006 = none ∧ decodeTableWord 32 0x7000001F = none ∧
    decodeTableWord 32 0x70000022 = none ∧ decodeTableWord 32 0x7000003F = none ∧
    decodeWord 0x0402003F#32 = .error (.unrecognized 0x01 0x3F) := by
  decide

/-- The neighbours of the reserved ranges are not rejected (95_test_vectors.md part 2 section 5). -/
theorem witness_ReservedSpaceIsExact_neighbours :
    decodeTableWord 32 0x3FFFFFFF ≠ none ∧ decodeTableWord 32 0xE0880000 ≠ none ∧ decodeTableWord 32 0x000007EB ≠ none ∧
    decodeTableWord 32 0x07F10000 ≠ none ∧ decodeTableWord 32 0x040E0000 ≠ none ∧ decodeTableWord 32 0x701FFFC5 ≠ none ∧
    decodeTableWord 32 0x71204020 ≠ none ∧ decodeTableWord 32 0x701F07E1 ≠ none := by
  decide

theorem witness_SelectorAloneFixesMnemonic :
    (0x012A4020#32 ≠ 0x00000000#32 ∧ 0x03FFFFE0#32 ≠ 0x00000000#32 ∧ opcodeOf 0x012A4020#32 = opcodeOf 0x03FFFFE0#32 ∧
      functOf 0x012A4020#32 = functOf 0x03FFFFE0#32 ∧
      decode 0x012A4020#32 0 = .ok ⟨0, "add", .R, "$t0, $t1, $t2"⟩) ∧
    (opcodeOf 0x0480FFFC#32 = opcodeOf 0x07E08000#32 ∧ rtOf 0x0480FFFC#32 = rtOf 0x07E08000#32 ∧
      decode 0x0480FFFC#32 8 = .ok ⟨8, "bltz", .I, "$a0, -0x4"⟩) ∧
    (opcodeOf 0x08000004#32 = opcodeOf 0x0BFFFFFF#32 ∧ opcodeOf 0x08000004#32 ≠ 0x00#6 ∧ opcodeOf 0x08000004#32 ≠ 0x1C#6 ∧
      opcodeOf 0x08000004#32 ≠ 0x01#6 ∧ decode 0x08000004#32 0 = .ok ⟨0, "j", .J, "4"⟩) := by
  decide

theorem witness_AddressIsOnlyALabel : decode 0x8F9A7FFF#32 0 = .ok ⟨0, "lw", .I, "$k0, 0x7fff($gp)"⟩ := by decide

theorem witness_DecodeOfEncodeIsIdentity : (Instr.add 9 10 8 31).wf = true ∧ (Instr.sll 31 0 0 0).wf = true := by decide

theorem witness_EncodeOfDecodeIsIdentity : decodeWord 0x03FFFFE0#32 = .ok (.add 31 31 31 31) := by decide

theorem ready_of_defaults (bytes : List Byte) : (start bytes).Ready := ⟨rfl, rfl, rfl⟩

theorem witness_StepRunsDecodedInstruction :
    (start [0x20, 0x40, 0x2A, 0x01]).Ready ∧ (start [0x20, 0x40, 0x2A, 0x01]).input = [0x20, 0x40, 0x2A, 0x01] ∧
    decodeWord (assembleWord 0x20 0x40 0x2A 0x01) = .ok (.add 9 10 8 0) :=
  ⟨ready_of_defaults _, rfl, by decide⟩

theorem witness_StepIsTheSequencerStep :
    (start []).Ready ∧ (start [0x08]).Ready ∧ (start [0x08, 0, 0]).Ready ∧ (start [0x08, 0, 0, 0]).Ready ∧
    (start []).finish.seqState ≠ .run ∧ (start []).fail.seqState ≠ .run :=
  ⟨ready_of_defaults _, ready_of_defaults _, ready_of_defaults _, ready_of_defaults _, by decide, by decide⟩

theorem witness_UnrecognizedWordIsEmittedAndPassedOver :
    (start [0x03, 0, 0, 0x70]).Ready ∧ decodeWord (assembleWord 0x03 0 0 0x70) = .error (.unrecognized 0x1C 0x03) :=
  ⟨ready_of_defaults _, by decide⟩

theorem witness_ShortChunkFailsTheStream :
    ((start [1]).Ready ∧ 0 < (start [1]).input.length ∧ (start [1]).input.length < 4) ∧
    ((start [1, 2, 3]).Ready ∧ 0 < (start [1, 2, 3]).input.length ∧ (start [1, 2, 3]).input.length < 4) :=
  ⟨⟨ready_of_defaults _, by decide, by decide⟩, ⟨ready_of_defaults _, by decide, by decide⟩⟩

theorem witness_EndedSequencerHasNoStep : (start []).finish.seqState = .done ∧ (start []).fail.seqState = .failed := by decide

theorem witness_AddressAdvancesByFourPerWord :
    (∃ t, step (start [0x20, 0x40, 0x2A, 0x01]) = .next t ∧ 4 ≤ (start [0x20, 0x40, 0x2A, 0x01]).input.length) ∧
    (∃ t, step (start [1, 2, 3]) = .next t ∧ (start [1, 2, 3]).input.length < 4) :=
  ⟨⟨_, rfl, by decide⟩, ⟨_, rfl, by decide⟩⟩

theorem witness_InstructionFrame : ∃ t, exec (.sw 29 31 0xFFFC) (start [1]) = .next t := ⟨_, rfl⟩

/-- Base 0 and three address bits: one word ends at 4 and fits, two words end at 8 and do not (49_sequencer.md R350). -/
theorem witness_OverflowingRunIsRefused :
    (⟨0, some 3, .continues⟩ : Params).aw = some 3 ∧ 0 + 4 * ([8, 0, 0, 0, 8, 0, 0, 0].length / 4) ≥ 2 ^ 3 ∧
    ¬ (0 + 4 * ([8, 0, 0, 0].length / 4) ≥ 2 ^ 3) ∧ Config.defaults.aw = none := by
  decide

theorem witness_ContractIsKeptByEveryStep :
    ∃ t, step (State.fresh ⟨0, some 3, .continues⟩ [8, 0, 0, 0]) = .next t ∧ t.params.aw = some 3 ∧ t.addr = 4 :=
  ⟨_, rfl, rfl, rfl⟩

theorem witness_EveryStepKeepsTheRunInvariant :
    (start [8, 0, 0, 0]).Inv ∧ ∃ t, step (start [8, 0, 0, 0]) = .next t :=
  ⟨⟨rfl, ⟨[], trivial, rfl, rfl⟩, fun h => absurd rfl h⟩, ⟨_, rfl⟩⟩

theorem witness_WholeRunEmitsOneResultPerWord :
    (start [8, 0, 0, 0, 7]).Ready ∧ (start [8, 0, 0, 0, 7]).params.unrecPolicy = .continues ∧
    (start [8, 0, 0, 0]).Ready ∧ (start []).Ready :=
  ⟨ready_of_defaults _, rfl, ready_of_defaults _, ready_of_defaults _⟩

/-- A fresh run, and one that has emitted a result and has other parameters, at the same address with the same next word. -/
theorem witness_ResultDependsOnWordAndAddressOnly :
    (start [8, 0, 0, 0]).Ready ∧
    (State.mk ⟨0, some 8, .aborts⟩ 0 .run [8, 0, 0, 0, 9] 4 [.ok ⟨0, "nop", .R, ""⟩]).Ready :=
  ⟨ready_of_defaults _, rfl, rfl, by decide⟩

theorem witness_ServedExactlyWhenReady :
    (∃ t, step (start []) = .next t) ∧ step (State.fresh ⟨8, some 3, .continues⟩ []) = .refused .addressOverflow :=
  ⟨⟨_, rfl⟩, rfl⟩

theorem witness_FieldRangeViolationIsUnreachable :
    ∃ t, step { start [] with output := [.err .fieldRangeViolation] } = .next t ∧ .err .fieldRangeViolation ∈ t.output :=
  ⟨_, rfl, by decide⟩

theorem witness_ParametersAndHistoryAreKept : ∃ t, step (start [8, 0, 0, 0]) = .next t := ⟨_, rfl⟩

theorem witness_TextsAreLowerCaseAscii : decode 0x0BFFFFFF#32 0 = .ok ⟨0, "j", .J, "4294967295"⟩ := by decide

theorem witness_TextsAreBounded : decode 0x07F0FFFF#32 4 = .ok ⟨4, "bltzal", .I, "$ra, -0x1"⟩ := by decide

theorem witness_PortsAndCodesFollowTheResult : okO 0x012A4020#32 0 = true ∧ okO 0x70000003#32 0 = false := by decide

theorem witness_LineIsMnemonicThenOperands :
    (DecodedInstruction.mk 0 "nop" .R "").operandText = "" ∧ (DecodedInstruction.mk 0 "jr" .R "$ra").operandText ≠ "" := by
  decide

theorem witness_AbortingSinkAsksNoMore :
    step { start [8, 0, 0, 0] with
      params := ⟨0, none, .aborts⟩
      output := [] ++ [.err (.unrecognizedInstruction 0 0x1C 0x03)] } = .fault .sinkStopped ∧
    (start []).params.unrecPolicy = .continues ∧
    (∀ a o f, (start []).output.getLast? ≠ some (.err (.unrecognizedInstruction a o f))) :=
  ⟨rfl, rfl, fun _ _ _ h => nomatch h⟩

end Sys2Proof.Tests
end

section
/-! PROOFS. 00_scope.md R6: the characters of the texts the decoder produces. Digits, numbers, register names, operand texts
and mnemonics are each made of printable 7-bit ASCII characters without upper-case letters. -/

namespace Sys2Proof.Machine

/-- A character R6 allows in a text: printable 7-bit ASCII, no upper-case letter. -/
def isPlain (c : Char) : Bool := decide (32 ≤ c.toNat ∧ c.toNat ≤ 126 ∧ ¬ (65 ≤ c.toNat ∧ c.toNat ≤ 90))

theorem isPlain_iff {c : Char} :
    isPlain c = true ↔ 32 ≤ c.toNat ∧ c.toNat ≤ 126 ∧ ¬ (65 ≤ c.toNat ∧ c.toNat ≤ 90) :=
  decide_eq_true_iff

/-- A text R6 allows. Said with `List.all`, so that `decide` runs over the text's characters and not over all of `Char`. -/
abbrev PlainText (t : Text) : Prop := t.toList.all isPlain = true

/-- Texts are put together with `++` alone (42_formatter.md R95 to R115). -/
theorem plainText_append {s t : Text} (hs : PlainText s) (ht : PlainText t) : PlainText (s ++ t) := by
  rw [PlainText, String.toList_append, List.all_append, hs, ht, Bool.and_self]

/-- The characters of a number in base `b` are digit characters below `b`. -/
theorem exists_digitChar_of_mem_toDigits {b : Nat} (hb : 1 < b) (n : Nat) {c : Char} (hc : c ∈ Nat.toDigits b n) :
    ∃ d < b, c = Nat.digitChar d := by
  induction n using Nat.strongRecOn with
  | ind n ih =>
    rw [Nat.toDigits_eq_if hb] at hc
    split at hc
    next hlt => exact ⟨n, hlt, List.mem_singleton.mp hc⟩
    next hge =>
      rcases List.mem_append.mp hc with hc | hc
      · exact ih (n / b) (Nat.div_lt_self (by omega) hb) hc
      · exact ⟨n % b, Nat.mod_lt n (by omega), List.mem_singleton.mp hc⟩

/-- The sixteen digits are `0` to `9` and the lower-case `a` to `f` (42_formatter.md R92). -/
theorem isPlain_digitChar : ∀ d < 16, isPlain (Nat.digitChar d) = true := by decide

theorem plainText_ofList_toDigits {b : Nat} (hb : 1 < b) (hb16 : b ≤ 16) (n : Nat) :
    PlainText (String.ofList (Nat.toDigits b n)) := by
  rw [PlainText, String.toList_ofList, List.all_eq_true]
  intro c hc
  obtain ⟨d, hd, rfl⟩ := exists_digitChar_of_mem_toDigits hb n hc
  exact isPlain_digitChar d (by omega)

theorem plainText_dec (n : Nat) : PlainText (dec n) := plainText_ofList_toDigits (by decide) (by decide) n

theorem plainText_hexu (n : Nat) : PlainText (hexu n) :=
  plainText_append (by decide) (plainText_ofList_toDigits (by decide) (by decide) n)

theorem plainText_hexs (v : Int) : PlainText (hexs v) := by
  unfold hexs
  split
  · exact plainText_append (by decide) (plainText_hexu _)
  · exact plainText_hexu _

theorem plainText_regname (i : RegIndex) : PlainText (regname i) := by
  revert i
  decide

/-- Two operand texts joined by the separator of 42_formatter.md R94. -/
theorem plainText_comma {s t : Text} (hs : PlainText s) (ht : PlainText t) : PlainText (s ++ ", " ++ t) :=
  plainText_append (plainText_append hs (by decide)) ht

/-- Every operand class joins register names and numbers by separators. -/
theorem plainText_formatOperands (cls : OperandClass) (f : Fields) : PlainText (formatOperands cls f) := by
  have reg := plainText_regname
  have simm := plainText_hexs (sext16 f.imm)
  have uimm := plainText_hexu (zext16 f.imm)
  cases cls with
  | none => rfl
  | rdRtSa => exact plainText_comma (plainText_comma (reg _) (reg _)) (plainText_dec _)
  | rdRtRs => exact plainText_comma (plainText_comma (reg _) (reg _)) (reg _)
  | rs => exact reg _
  | rdRs => exact plainText_comma (reg _) (reg _)
  | rd => exact reg _
  | rsRt => exact plainText_comma (reg _) (reg _)
  | rdRsRt => exact plainText_comma (plainText_comma (reg _) (reg _)) (reg _)
  | rsSimm => exact plainText_comma (reg _) simm
  | rsRtSimm => exact plainText_comma (plainText_comma (reg _) (reg _)) simm
  | rtRsSimm => exact plainText_comma (plainText_comma (reg _) (reg _)) simm
  | rtRsUimm => exact plainText_comma (plainText_comma (reg _) (reg _)) uimm
  | rtUimm => exact plainText_comma (reg _) uimm
  | rtOffBase =>
    have offset := plainText_append (plainText_comma (reg f.rt) simm) (t := "(") (by decide)
    exact plainText_append (plainText_append offset (reg f.rs)) (by decide)
  | target => exact plainText_dec _
  | code26 => exact plainText_hexu _

/-- What holds of `nop` and of every entry of the four tables holds of every descriptor found (41_dispatch.md R72). -/
theorem lookup_forall {P : Descriptor → Prop} (hnop : P nopDescriptor)
    (hspecial : ∀ k, ∀ d ∈ specialTable k, P d) (hregimm : ∀ k, ∀ d ∈ regimmTable k, P d)
    (hspecial2 : ∀ k, ∀ d ∈ special2Table k, P d) (hprimary : ∀ k, ∀ d ∈ primaryTable k, P d)
    {w : Word} {f : Fields} {d : Descriptor} (h : lookup w f = some d) : P d := by
  unfold lookup at h
  split at h
  · cases h; exact hnop
  · split at h
    · exact hspecial _ d h
    · split at h
      · exact hregimm _ d h
      · split at h
        · exact hspecial2 _ d h
        · exact hprimary _ d h

theorem plainText_mnemonic_of_lookup {w : Word} {f : Fields} {d : Descriptor} (h : lookup w f = some d) :
    PlainText d.mnemonic :=
  lookup_forall (P := fun d => PlainText d.mnemonic) (by decide) (by decide) (by decide) (by decide) (by decide) h

/-- An `Ok` of `decode` carries a found descriptor's mnemonic and tag and its class's operand text (41_dispatch.md R76). -/
theorem decode_ok {w : Word} {a : Nat} {d : DecodedInstruction} (h : decode w a = .ok d) :
    ∃ f desc, fieldsOf w = .ok f ∧ lookup w f = some desc ∧
      d = { address := a, mnemonic := desc.mnemonic, format := desc.format, operandText := formatOperands desc.cls f } := by
  unfold decode at h
  split at h
  next => cases h
  next f hf =>
    split at h
    next => cases h
    next desc hl => cases h; exact ⟨f, desc, hf, hl, rfl⟩

/-- Settles O54: the mnemonic is a table entry's and the operand text the formatter's, and both are plain. -/
theorem textsAreLowerCaseAscii : Obligations.TextsAreLowerCaseAscii := by
  intro w a d h c hc
  obtain ⟨f, desc, -, hl, rfl⟩ := decode_ok h
  rw [← isPlain_iff]
  rcases List.mem_append.mp hc with hc | hc
  · exact List.all_eq_true.mp (plainText_mnemonic_of_lookup hl) c hc
  · exact List.all_eq_true.mp (plainText_formatOperands desc.cls f) c hc

end Sys2Proof.Machine
end

section
/-! PROOFS. 10_state.md R15 and R17, 20_memory.md R28: what no step takes back, the parameters and the results emitted. -/

namespace Sys2Proof.Machine

/-- Settles O53: the end of the input emits nothing, a short chunk its error and a word its one result, and none of the
three writes the parameters. -/
theorem parametersAndHistoryAreKept : Obligations.ParametersAndHistoryAreKept := by
  intro s t h
  obtain ⟨-, rfl⟩ | ⟨-, -, rfl⟩ | ⟨_, _, _, _, _, r, -, -, rfl⟩ := step_cases h
  · exact ⟨State.finish_params s, .inl (State.finish_output s)⟩
  · exact ⟨by simp, .inr ⟨.err (.truncatedInstruction s.addr), by simp⟩⟩
  · exact ⟨by simp, .inr ⟨r, by simp⟩⟩

end Sys2Proof.Machine
end

section
/-! PROOFS. 20_memory.md R28, 49_sequencer.md R343 to R345, 10_state.md R14: the run invariant, kept by each of the three things
a step can do. -/

namespace Sys2Proof.Machine

/-- A word result at the next free address extends a row of word results (20_memory.md R28). -/
theorem wordResultsFrom_append_singleton {a : Nat} {words : List DecodeResult} {r : DecodeResult}
    (hw : WordResultsFrom a words) (hr : r.wordAddress = some (a + 4 * words.length)) :
    WordResultsFrom a (words ++ [r]) := by
  induction words generalizing a with
  | nil => exact ⟨hr, trivial⟩
  | cons w ws ih =>
    obtain ⟨hw, hws⟩ := hw
    refine ⟨hw, ih hws ?_⟩
    rw [hr, List.length_cons]
    congr 1
    omega

/-- In RUN everything emitted so far is a word result (49_sequencer.md R343). -/
theorem State.Inv.output_of_run {s : State} (hi : s.Inv) (hrun : s.seqState = .run) :
    WordResultsFrom s.params.base s.output ∧ s.consumed = 4 * s.output.length := by
  obtain ⟨words, hw, hc, ho⟩ := hi.results
  rw [hrun] at ho
  subst ho
  exact ⟨hw, hc⟩

/-- Ending at the end of the input keeps the invariant (49_sequencer.md R344). -/
theorem State.Inv.finish {s : State} (hi : s.Inv) (hrun : s.seqState = .run) (hin : s.input = []) : s.finish.Inv := by
  obtain ⟨hw, hc⟩ := hi.output_of_run hrun
  exact ⟨hi.addr_counts, ⟨s.output, hw, hc, rfl⟩, fun _ => hin⟩

/-- Failing on a short chunk keeps the invariant: the chunk is dropped uncounted, and its error stands last
(49_sequencer.md R345; log entry 5). -/
theorem State.Inv.fail_short {s : State} (hi : s.Inv) (hrun : s.seqState = .run) :
    (({ s with input := [] } : State).emit (.err (.truncatedInstruction s.addr))).fail.Inv := by
  obtain ⟨hw, hc⟩ := hi.output_of_run hrun
  exact ⟨hi.addr_counts, ⟨s.output, hw, hc, rfl⟩, fun _ => rfl⟩

/-- Taking four bytes and emitting a word result at `addr` keeps the invariant (49_sequencer.md R342, R343). -/
theorem State.Inv.emit_word {s : State} (hi : s.Inv) (hrun : s.seqState = .run) (rest : List Byte) {r : DecodeResult}
    (hr : r.wordAddress = some s.addr) :
    (({ s with input := rest, consumed := s.consumed + 4 } : State).emit r).advance.Inv := by
  obtain ⟨hw, hc⟩ := hi.output_of_run hrun
  have haddr := hi.addr_counts
  have hnext : r.wordAddress = some (s.params.base + 4 * s.output.length) := by rw [hr, haddr, hc]
  refine ⟨?_, ⟨s.output ++ [r], wordResultsFrom_append_singleton hw hnext, ?_, ?_⟩, fun h => absurd hrun h⟩
  · change s.addr + 4 = s.params.base + (s.consumed + 4)
    omega
  · change s.consumed + 4 = 4 * (s.output ++ [r]).length
    rw [List.length_append, List.length_singleton]
    omega
  · simp [hrun]

/-- Settles O47: a served step begins in RUN and ends the stream, fails it or emits one word result at `addr`, and each of
the three keeps the invariant. -/
theorem everyStepKeepsTheRunInvariant : Obligations.EveryStepKeepsTheRunInvariant := by
  intro s t hi h
  obtain ⟨hrun, -, -, -⟩ := step_next h
  obtain ⟨hin, rfl⟩ | ⟨-, -, rfl⟩ | ⟨_, _, _, _, rest, r, -, hr, rfl⟩ := step_cases h
  · exact hi.finish hrun hin
  · exact hi.fail_short hrun
  · have haddr : r.wordAddress = some s.addr := by
      obtain ⟨d, rfl, hd⟩ | ⟨o, f, rfl⟩ := hr
      · exact congrArg some hd
      · rfl
    exact hi.emit_word hrun rest haddr

end Sys2Proof.Machine
end

section
/-! PROOFS. 20_memory.md R21, R27 and R29: how four bytes form a word, what an instruction leaves unchanged, and what the
result for a word depends on. -/

namespace Sys2Proof.Machine

/-- The bytes of an assembled word are the bytes it was made of (20_memory.md R21). -/
theorem wordBytes_assembleWord (b0 b1 b2 b3 : Byte) : wordBytes (assembleWord b0 b1 b2 b3) = [b0, b1, b2, b3] := by
  simp only [wordBytes, List.cons.injEq, and_true]
  refine ⟨?_, ?_, ?_, ?_⟩ <;>
  · apply BitVec.eq_of_toNat_eq
    rw [Laws.slice_toNat, Laws.assembleWord_toNat]
    omega

/-- Settles O5: assembling and taking apart are inverse to each other. -/
theorem wordAssemblyIsLittleEndian : Obligations.WordAssemblyIsLittleEndian :=
  ⟨Laws.assembleWord_toNat, fun w => ⟨_, _, _, _, rfl, Laws.assembleWord_slices w⟩, wordBytes_assembleWord, by decide⟩

/-- Settles O44: every meaning is one call of `complete`, which writes `addr` and the output alone. -/
theorem instructionFrame : Obligations.InstructionFrame := by
  intro i s t h
  obtain ⟨m, f, text, hc⟩ := exec_is_complete i s
  rw [hc, complete_eq] at h
  cases h
  exact ⟨rfl, ⟨_, rfl, rfl⟩, rfl, rfl, rfl, rfl⟩

/-- The mnemonic, format and text an instruction completes with are the same in every state. -/
theorem exec_completes_uniformly (i : Instr) : ∃ m f text, ∀ s, exec i s = complete m f text s := by
  cases i <;> exact ⟨_, _, _, fun _ => rfl⟩

/-- The only rejection of a complete word is that it is unrecognized (41_dispatch.md R75, 60_exceptions.md R403). -/
theorem unrecognized_of_decodeWord_error {w : Word} {e : Reject} (h : decodeWord w = .error e) :
    ∃ o f, e = .unrecognized o f := by
  simp only [decodeWord, Laws.fieldsOf_ok] at h
  split at h
  · cases h
  · split at h
    · cases h
    · cases h; exact ⟨_, _, rfl⟩

theorem fetch_of_input_cons {s : State} {b0 b1 b2 b3 : Byte} {rest : List Byte} (h : s.input = b0 :: b1 :: b2 :: b3 :: rest) :
    fetch s = .word (assembleWord b0 b1 b2 b3) { s with input := rest, consumed := s.consumed + 4 } := by
  simp [fetch, h]

/-- Four bytes and an address fix one result, which every request served at that address with those bytes next emits
(20_memory.md R29). -/
theorem serve_result_of_bytes_addr (b0 b1 b2 b3 : Byte) (a : Nat) :
    ∃ r, ∀ (s : State) (rest : List Byte), s.addr = a → s.input = b0 :: b1 :: b2 :: b3 :: rest →
      serve s = .next (({ s with input := rest, consumed := s.consumed + 4 } : State).emit r).advance := by
  rcases hd : decodeWord (assembleWord b0 b1 b2 b3) with e | i
  · obtain ⟨o, f, rfl⟩ := unrecognized_of_decodeWord_error hd
    refine ⟨.err (.unrecognizedInstruction a o f), fun s rest ha hin => ?_⟩
    subst ha
    simp only [serve, fetch_of_input_cons hin, hd]
    rfl
  · obtain ⟨m, f, text, hc⟩ := exec_completes_uniformly i
    refine ⟨.ok ⟨a, m, f, text⟩, fun s rest ha hin => ?_⟩
    subst ha
    simp only [serve, fetch_of_input_cons hin, hd, hc]
    rfl

/-- Settles O50: both steps are served, and the bytes and the address have fixed the result before either state is looked
at. -/
theorem resultDependsOnWordAndAddressOnly : Obligations.ResultDependsOnWordAndAddressOnly := by
  intro s t b0 b1 b2 b3 rs rt hs ht ha hsin htin
  obtain ⟨r, hr⟩ := serve_result_of_bytes_addr b0 b1 b2 b3 t.addr
  have hstep_s := (step_of_ready hs.running hs.asks hs.fits).trans (hr s rs ha hsin)
  have hstep_t := (step_of_ready ht.running ht.asks ht.fits).trans (hr t rt rfl htin)
  exact ⟨_, _, r, hstep_s, hstep_t, rfl, rfl⟩

end Sys2Proof.Machine
end

section
/-! PROOFS. 30_encoding.md R42 to R45 and R49 to R55: the fields of a word, the dispatch on them and the word of an
instruction. -/

namespace Sys2Proof.Machine

/-- The eight slices of R42 as one record: the fields `fieldsOf` answers for the word. -/
def slices (w : Word) : Fields :=
  { opcode := opcodeOf w, rs := rsOf w, rt := rtOf w, rd := rdOf w, shamt := shamtOf w, funct := functOf w,
    imm := immOf w, target := targetOf w }

theorem fieldsOf_eq_slices (w : Word) : fieldsOf w = .ok (slices w) := Laws.fieldsOf_ok w

@[simp] theorem slices_opcode (w : Word) : (slices w).opcode = opcodeOf w := rfl
@[simp] theorem slices_funct (w : Word) : (slices w).funct = functOf w := rfl

theorem low_slice_toNat (w : Word) (len : Nat) : (w.extractLsb' 0 len).toNat = w.toNat % 2 ^ len := by
  rw [Laws.slice_toNat, pow_zero, Nat.div_one]

/-- Settles O2: each field is a slice, whose value `Laws.slice_toNat` gives; no bit stands above the opcode. -/
theorem fieldsAreTheEightSlices : Obligations.FieldsAreTheEightSlices := by
  intro w
  refine ⟨slices w, fieldsOf_eq_slices w, ?opcode, Laws.slice_toNat w 21 5, Laws.slice_toNat w 16 5,
    Laws.slice_toNat w 11 5, Laws.slice_toNat w 6 5, ?funct, ?imm, ?target⟩
  case opcode =>
    have h : (slices w).opcode.toNat = w.toNat / 2 ^ 26 % 2 ^ 6 := Laws.slice_toNat w 26 6
    omega
  case funct => exact low_slice_toNat w 6
  case imm => exact low_slice_toNat w 16
  case target => exact low_slice_toNat w 26

theorem slices_wordR (o : BitVec 6) (rs rt rd : RegIndex) (sh : Shamt) (fn : BitVec 6) :
    slices (wordR o rs rt rd sh fn) =
      ⟨o, rs, rt, rd, sh, fn, immOf (wordR o rs rt rd sh fn), targetOf (wordR o rs rt rd sh fn)⟩ := by
  simp [slices]

theorem slices_wordI (o : BitVec 6) (rs rt : RegIndex) (imm : Imm16) :
    slices (wordI o rs rt imm) =
      ⟨o, rs, rt, rdOf (wordI o rs rt imm), shamtOf (wordI o rs rt imm), functOf (wordI o rs rt imm), imm,
        targetOf (wordI o rs rt imm)⟩ := by
  simp [slices]

theorem slices_wordJ (o : BitVec 6) (target : Target26) :
    slices (wordJ o target) =
      ⟨o, rsOf (wordJ o target), rtOf (wordJ o target), rdOf (wordJ o target), shamtOf (wordJ o target),
        functOf (wordJ o target), immOf (wordJ o target), target⟩ := by
  simp [slices]

theorem decodeWord_zero : decodeWord 0x00000000#32 = .ok .nop := rfl

theorem decodeWord_of_some {w : Word} {i : Instr} (hw : w ≠ 0x00000000#32) (h : decodeFields (slices w) = some i) :
    decodeWord w = .ok i := by
  simp [decodeWord, fieldsOf_eq_slices, hw, h]

/-- The dispatch finds an instruction for the zero word too (`sll`), so no word it has none for is the zero word. -/
theorem decodeWord_of_none {w : Word} (h : decodeFields (slices w) = none) :
    decodeWord w = .error (.unrecognized (opcodeOf w) (functOf w)) := by
  have hw : w ≠ 0x00000000#32 := by
    rintro rfl
    cases h
  simp only [decodeWord, fieldsOf_eq_slices, if_neg hw, h, slices_opcode, slices_funct]

/-- The dispatch on the fields of an encoded instruction finds the instruction: the selectors of its row are literals
in its layout, and every other field of the layout is carried (30_encoding.md R43 to R45, R49 to R52). -/
theorem decodeFields_slices_encode {i : Instr} (hi : i ≠ .nop) : decodeFields (slices (encode i)) = some i := by
  cases i with
  | nop => exact absurd rfl hi
  | _ =>
    simp only [encode, slices_wordR, slices_wordI, slices_wordJ]
    rfl

/-- The dispatch reads the zero word as the one ill-formed term, so no other instruction has it (30_encoding.md R55). -/
theorem encode_ne_zero {i : Instr} (hi : i ≠ .nop) (hwf : i.wf = true) : encode i ≠ 0x00000000#32 := by
  intro h0
  have hf := decodeFields_slices_encode hi
  rw [h0] at hf
  obtain rfl : Instr.sll 0 0 0 0 = i := Option.some.inj hf
  exact absurd hwf (by decide)

/-- Settles O35: `nop` by the zero test, any other instruction by the dispatch on the fields of its word. -/
theorem decodeOfEncodeIsIdentity : Obligations.DecodeOfEncodeIsIdentity := by
  intro i hwf
  by_cases hi : i = .nop
  · rw [hi]
    exact decodeWord_zero
  · exact decodeWord_of_some (encode_ne_zero hi hwf) (decodeFields_slices_encode hi)

end Sys2Proof.Machine
end

section
/-! PROOFS. 30_encoding.md R53 and R55, 41_dispatch.md R72 and R75: which words the dispatch has no instruction for, and
which word is `nop`. -/

namespace Sys2Proof.Machine

/-- The dispatch is one of its four maps, the one that the opcode selects (41_dispatch.md R72). -/
theorem decodeFields_cases (f : Fields) :
    (f.opcode = 0x00#6 ∧ decodeFields f = decodeSpecial f) ∨
    (f.opcode = 0x01#6 ∧ decodeFields f = decodeRegimm f) ∨
    (f.opcode = 0x1C#6 ∧ decodeFields f = decodeSpecial2 f) ∨
    ((f.opcode ≠ 0x00#6 ∧ f.opcode ≠ 0x01#6 ∧ f.opcode ≠ 0x1C#6) ∧ decodeFields f = decodeDirect f) := by
  unfold decodeFields
  split
  next h0 => exact .inl ⟨h0, rfl⟩
  next h0 =>
    split
    next h1 => exact .inr (.inl ⟨h1, rfl⟩)
    next h1 =>
      split
      next h2 => exact .inr (.inr (.inl ⟨h2, rfl⟩))
      next h2 => exact .inr (.inr (.inr ⟨⟨h0, h1, h2⟩, rfl⟩))

/-- `nop` is in none of the four maps: the zero test alone gives it (43_special.md R201). -/
theorem decodeFields_ne_nop (f : Fields) : decodeFields f ≠ some .nop := by
  obtain ⟨-, h⟩ | ⟨-, h⟩ | ⟨-, h⟩ | ⟨-, h⟩ := decodeFields_cases f <;> rw [h]
  · unfold decodeSpecial
    split <;> nofun
  · unfold decodeRegimm
    split <;> nofun
  · unfold decodeSpecial2
    split <;> nofun
  · unfold decodeDirect
    split <;> nofun

/-! Each map is empty on a selector exactly where its table is: the selector of an arm is put into the table. -/

theorem decodeSpecial_eq_none_iff (f : Fields) : decodeSpecial f = none ↔ specialTable f.funct = none := by
  unfold decodeSpecial specialTable
  split <;> simp_all

theorem decodeRegimm_eq_none_iff (f : Fields) : decodeRegimm f = none ↔ regimmTable f.rt = none := by
  unfold decodeRegimm regimmTable
  split <;> simp_all

theorem decodeSpecial2_eq_none_iff (f : Fields) : decodeSpecial2 f = none ↔ special2Table f.funct = none := by
  unfold decodeSpecial2 special2Table
  split <;> simp_all

theorem decodeDirect_eq_none_iff (f : Fields) : decodeDirect f = none ↔ primaryTable f.opcode = none := by
  unfold decodeDirect primaryTable
  split <;> simp_all

/-- For any word but zero the opcode table has an entry exactly when the dispatch has an instruction
(41_dispatch.md R72). -/
theorem lookup_eq_none_iff {w : Word} (hw : w ≠ 0x00000000#32) (f : Fields) :
    lookup w f = none ↔ decodeFields f = none := by
  rw [lookup, if_neg hw]
  obtain ⟨ho, h⟩ | ⟨ho, h⟩ | ⟨ho, h⟩ | ⟨⟨h0, h1, h2⟩, h⟩ := decodeFields_cases f
  · simp [h, ho, decodeSpecial_eq_none_iff]
  · simp [h, ho, decodeRegimm_eq_none_iff]
  · simp [h, ho, decodeSpecial2_eq_none_iff]
  · simp [h, h0, h1, h2, decodeDirect_eq_none_iff]

/-- The reserved primary opcodes (30_encoding.md R53). -/
def ReservedOpcode (k : BitVec 6) : Prop :=
  k.toNat ∈ [0x10, 0x11, 0x12, 0x13, 0x14, 0x15, 0x16, 0x17, 0x1B, 0x1D, 0x1E, 0x1F, 0x22, 0x26, 0x27, 0x2A,
    0x2C, 0x2D, 0x2E, 0x2F, 0x31, 0x32, 0x33, 0x34, 0x35, 0x36, 0x37] ∨ 0x39 ≤ k.toNat

/-- The reserved functs of SPECIAL (43_special.md R228). -/
def ReservedSpecial (k : BitVec 6) : Prop :=
  k.toNat ∈ [0x01, 0x05, 0x0A, 0x0B, 0x0C, 0x0D, 0x0E, 0x0F, 0x14, 0x15, 0x16, 0x17, 0x1C, 0x1D, 0x1E,
    0x1F, 0x28, 0x29] ∨ 0x2C ≤ k.toNat

/-- The reserved selectors of REGIMM (44_regimm.md R251). -/
def ReservedRegimm (k : BitVec 5) : Prop :=
  k.toNat ∈ [0x02, 0x03, 0x04, 0x05, 0x06, 0x07, 0x0D, 0x0F] ∨ 0x12 ≤ k.toNat

/-- The reserved functs of SPECIAL2 (45_special2.md R268). -/
def ReservedSpecial2 (k : BitVec 6) : Prop :=
  k.toNat = 0x03 ∨ (0x06 ≤ k.toNat ∧ k.toNat ≤ 0x1F) ∨ 0x22 ≤ k.toNat

theorem specialTable_eq_none_iff : ∀ k, specialTable k = none ↔ ReservedSpecial k := by
  unfold ReservedSpecial
  decide

theorem regimmTable_eq_none_iff : ∀ k, regimmTable k = none ↔ ReservedRegimm k := by
  unfold ReservedRegimm
  decide

theorem special2Table_eq_none_iff : ∀ k, special2Table k = none ↔ ReservedSpecial2 k := by
  unfold ReservedSpecial2
  decide

/-- The three opcodes with a table of their own have no primary entry, and are not reserved (30_encoding.md R49, R53). -/
theorem primaryTable_eq_none_iff :
    ∀ k, primaryTable k = none ↔ k = 0x00#6 ∨ k = 0x01#6 ∨ k = 0x1C#6 ∨ ReservedOpcode k := by
  unfold ReservedOpcode
  decide

theorem not_reservedOpcode_of_family :
    ¬ ReservedOpcode 0x00#6 ∧ ¬ ReservedOpcode 0x01#6 ∧ ¬ ReservedOpcode 0x1C#6 := by
  unfold ReservedOpcode
  decide

/-- The reserved space by the selectors: each opcode has one map, and each map's empty slots are its reserved list
(30_encoding.md R53). -/
theorem decodeFields_eq_none_iff (f : Fields) : decodeFields f = none ↔
    ReservedOpcode f.opcode ∨ (f.opcode = 0x00#6 ∧ ReservedSpecial f.funct) ∨
      (f.opcode = 0x01#6 ∧ ReservedRegimm f.rt) ∨ (f.opcode = 0x1C#6 ∧ ReservedSpecial2 f.funct) := by
  obtain ⟨hspecial, hregimm, hspecial2⟩ := not_reservedOpcode_of_family
  obtain ⟨ho, h⟩ | ⟨ho, h⟩ | ⟨ho, h⟩ | ⟨⟨h0, h1, h2⟩, h⟩ := decodeFields_cases f
  · simp [h, ho, decodeSpecial_eq_none_iff, specialTable_eq_none_iff, hspecial]
  · simp [h, ho, decodeRegimm_eq_none_iff, regimmTable_eq_none_iff, hregimm]
  · simp [h, ho, decodeSpecial2_eq_none_iff, special2Table_eq_none_iff, hspecial2]
  · simp [h, h0, h1, h2, decodeDirect_eq_none_iff, primaryTable_eq_none_iff]

/-- A rejected word is not zero, and the dispatch has no instruction for its fields (41_dispatch.md R75). -/
theorem decodeFields_of_decodeWord_error {w : Word} {e : Reject} (h : decodeWord w = .error e) :
    w ≠ 0x00000000#32 ∧ decodeFields (slices w) = none := by
  have hw : w ≠ 0x00000000#32 := by
    rintro rfl
    cases h
  refine ⟨hw, ?_⟩
  rcases hd : decodeFields (slices w) with _ | i
  · rfl
  · cases h.symm.trans (decodeWord_of_some hw hd)

theorem decode_of_lookup_none {w : Word} (h : lookup w (slices w) = none) (a : Nat) :
    decode w a = .err (.unrecognizedInstruction a (opcodeOf w) (functOf w)) := by
  simp only [decode, fieldsOf_eq_slices, h, slices_opcode, slices_funct]

/-- Settles O31: the dispatch has no instruction exactly on the four lists, and where it has none the opcode table has no
entry. -/
theorem reservedSpaceIsExact : Obligations.ReservedSpaceIsExact := by
  intro w
  refine ⟨?rejected, ?error⟩
  case rejected =>
    have hiff : (∃ e, decodeWord w = .error e) ↔ decodeFields (slices w) = none :=
      ⟨fun ⟨_, h⟩ => (decodeFields_of_decodeWord_error h).2, fun h => ⟨_, decodeWord_of_none h⟩⟩
    exact (hiff.trans (decodeFields_eq_none_iff (slices w))).trans or_assoc
  case error =>
    intro e h
    obtain ⟨hw, hnone⟩ := decodeFields_of_decodeWord_error h
    have he := h.symm.trans (decodeWord_of_none hnone)
    exact ⟨Except.error.inj he, decode_of_lookup_none ((lookup_eq_none_iff hw _).mpr hnone)⟩

theorem decodeWord_eq_nop_iff (w : Word) : decodeWord w = .ok .nop ↔ w = 0x00000000#32 := by
  constructor
  · intro h
    by_contra hw
    rcases hd : decodeFields (slices w) with _ | i
    · cases h.symm.trans (decodeWord_of_none hd)
    · obtain rfl : .nop = i := Except.ok.inj (h.symm.trans (decodeWord_of_some hw hd))
      exact decodeFields_ne_nop _ hd
  · rintro rfl
    exact decodeWord_zero

/-- Settles O9: no map of the dispatch holds `nop`; funct 0 of SPECIAL is `sll`; the meaning of `nop` is one `complete`. -/
theorem nopIsExactlyTheZeroWord : Obligations.NopIsExactlyTheZeroWord := by
  refine ⟨decodeWord_eq_nop_iff, ?sll, complete_eq "nop" .R textNone⟩
  case sll =>
    intro w hw ho hf
    refine decodeWord_of_some hw ?_
    simp only [decodeFields, decodeSpecial, slices, ho, hf, if_true]

end Sys2Proof.Machine
end

section
/-! PROOFS. 30_encoding.md R54, 41_dispatch.md R77: what the mnemonic and the format tag of a word depend on. -/

namespace Sys2Proof.Machine

/-- The entry found depends on the selectors alone (41_dispatch.md R72, R77). -/
theorem lookup_congr {w v : Word} {f g : Fields} (hw : w ≠ 0x00000000#32) (hv : v ≠ 0x00000000#32)
    (ho : f.opcode = g.opcode) (hfunct : f.opcode = 0x00#6 ∨ f.opcode = 0x1C#6 → f.funct = g.funct)
    (hrt : f.opcode = 0x01#6 → f.rt = g.rt) : lookup w f = lookup v g := by
  rw [lookup, lookup, if_neg hw, if_neg hv, ← ho]
  split
  next h => rw [hfunct (.inl h)]
  next =>
    split
    next h => rw [hrt h]
    next =>
      split
      next h => rw [hfunct (.inr h)]
      next => rfl

theorem decode_of_lookup {w : Word} {d : Descriptor} (h : lookup w (slices w) = some d) (a : Nat) :
    decode w a = .ok ⟨a, d.mnemonic, d.format, formatOperands d.cls (slices w)⟩ := by
  simp only [decode, fieldsOf_eq_slices, h]

/-- Settles O32: equal selectors find the same table entry, which carries the mnemonic and the tag. -/
theorem selectorAloneFixesMnemonic : Obligations.SelectorAloneFixesMnemonic := by
  intro w v a b d hw hv ho hfunct hrt h
  obtain ⟨f, desc, hf, hl, rfl⟩ := decode_ok h
  obtain rfl : slices w = f := Except.ok.inj ((fieldsOf_eq_slices w).symm.trans hf)
  have hlv : lookup v (slices v) = some desc := (lookup_congr hw hv ho hfunct hrt).symm.trans hl
  exact ⟨_, decode_of_lookup hlv b, rfl, rfl⟩

end Sys2Proof.Machine
end

section
/-! PROOFS. 40_bitfield.md R60 to R64: what the extractor answers, the value of a sign extension and the value of an adjusted
jump target. -/

namespace Sys2Proof.Machine

/-- The mask of R60 keeps the low `len` bits, as the bit slice does. -/
theorem slice_toNat_eq_mask (w : Word) (start len : Nat) :
    (w.extractLsb' start len).toNat = (w.toNat >>> start) &&& ((1 <<< len) - 1) := by
  rw [BitVec.extractLsb'_toNat, Nat.one_shiftLeft, Nat.and_two_pow_sub_one_eq_mod]

/-- Settles O1: within its constraints `extract` is the bit slice, whose value is the shift and the mask; outside them the
guard fails. -/
theorem extractIsShiftAndMask : Obligations.ExtractIsShiftAndMask := by
  refine ⟨?masked, ?whole, by decide, ?outside⟩
  case masked =>
    intro w offset width h
    exact ⟨_, Laws.extract_ok w offset width h, slice_toNat_eq_mask w offset width⟩
  case whole =>
    intro w
    rw [Laws.extract_ok w 0 32 (by decide), BitVec.extractLsb'_eq_self]
  case outside =>
    intro w offset width h
    exact if_neg h

theorem signExtend_of_testBit {value width : Nat} (h : value.testBit (width - 1) = true) :
    signExtend value width = (value : Int) - 2 ^ width := if_pos h

theorem signExtend_of_not_testBit {value width : Nat} (h : value.testBit (width - 1) = false) :
    signExtend value width = value := if_neg (Bool.eq_false_iff.mp h)

/-- `sign_extend` of a vector's value is its two's-complement value (40_bitfield.md R62), at every width: a vector of width
0 has the value 0, which has no bit set. -/
theorem signExtend_toNat {width : Nat} (x : BitVec width) : signExtend x.toNat width = x.toInt := by
  have hmsb : x.toNat.testBit (width - 1) = x.msb := x.msb_eq_getLsbD_last.symm
  rw [BitVec.toInt_eq_msb_cond, ← hmsb, signExtend]
  norm_cast

/-- A value below `2 ^ width` is that of a vector of the width, so its sign extension has the vector's range. -/
theorem signExtend_bounds {value width : Nat} (h : value < 2 ^ width) :
    -(2 ^ (width - 1) : Int) ≤ signExtend value width ∧ signExtend value width ≤ 2 ^ (width - 1) - 1 := by
  have heq : signExtend value width = (BitVec.ofNat width value).toInt := by
    rw [← signExtend_toNat, BitVec.toNat_ofNat, Nat.mod_eq_of_lt h]
  rw [heq]
  exact ⟨BitVec.le_toInt _, Int.le_sub_one_of_lt BitVec.toInt_lt⟩

/-- Settles O3: the two cases are the branches of `signExtend`; the range is that of a two's-complement vector. -/
theorem signExtensionIsTwosComplement : Obligations.SignExtensionIsTwosComplement := by
  refine ⟨?value, signExtend_toNat, by decide, by decide⟩
  case value =>
    intro value width _ hlt
    exact ⟨signExtend_of_testBit, signExtend_of_not_testBit, signExtend_bounds hlt⟩

/-- Bit 25 is the top bit of a target: it is set exactly in the upper half of the range (40_bitfield.md R64). -/
theorem target_bit25_iff (t : Target26) : t.getLsbD 25 = true ↔ 2 ^ 25 ≤ t.toNat :=
  ⟨Nat.ge_two_pow_of_testBit, fun h => Nat.testBit_of_two_pow_le_and_two_pow_add_one_gt h t.isLt⟩

theorem jtarget_of_bit25 {t : Target26} (h : t.getLsbD 25 = true) :
    jtarget t = t.setWidth 32 ||| 0xFC000000#32 := if_pos h

/-- The bits of the target lie below those of `0xFC000000`, so `|` and `+` agree (40_bitfield.md R64). -/
theorem jtarget_toNat_of_bit25 {t : Target26} (h : t.getLsbD 25 = true) :
    (jtarget t).toNat = t.toNat + 0xFC000000 := by
  have hor : 0xFC000000 + t.toNat = 0xFC000000 ||| t.toNat := Nat.shiftLeft_add_eq_or_of_lt (a := 0x3F) t.isLt
  have hlow : (t.setWidth 32).toNat = t.toNat := BitVec.toNat_setWidth_of_le (by decide)
  rw [jtarget_of_bit25 h, BitVec.toNat_or, hlow, Nat.or_comm, Nat.add_comm]
  exact hor.symm

theorem jtarget_toNat_of_not_bit25 {t : Target26} (h : t.getLsbD 25 = false) : (jtarget t).toNat = t.toNat := by
  rw [jtarget, if_neg (Bool.eq_false_iff.mp h), BitVec.toNat_setWidth_of_le (by decide)]

/-- Adding `0xFC000000` is subtracting `2 ^ 26` modulo `2 ^ 32` (40_bitfield.md R64). -/
theorem jtarget_toNat_eq_signExtend_emod (t : Target26) :
    ((jtarget t).toNat : Int) = signExtend t.toNat 26 % 2 ^ 32 := by
  have hlt := t.isLt
  rcases hbit : t.getLsbD 25 with _ | _
  · rw [jtarget_toNat_of_not_bit25 hbit, signExtend_of_not_testBit (width := 26) hbit]
    omega
  · rw [jtarget_toNat_of_bit25 hbit, signExtend_of_testBit (width := 26) hbit]
    omega

/-- Settles O4: the value of the adjusted target in each case of bit 25, which also bounds the target itself. -/
theorem jumpTargetIsAdjustedUnsigned : Obligations.JumpTargetIsAdjustedUnsigned := by
  refine ⟨?set, ?clear, jtarget_toNat_eq_signExtend_emod, by decide, by decide, by decide, by decide⟩
  case set =>
    intro t hbit
    have hval := jtarget_toNat_of_bit25 hbit
    have hge := (target_bit25_iff t).mp hbit
    exact ⟨jtarget_of_bit25 hbit, hval, by omega, by omega⟩
  case clear =>
    intro t hbit
    have hval := jtarget_toNat_of_not_bit25 hbit
    have hlt : ¬ 2 ^ 25 ≤ t.toNat := mt (target_bit25_iff t).mpr (Bool.eq_false_iff.mp hbit)
    exact ⟨hval, by omega⟩

end Sys2Proof.Machine
end

section
/-! PROOFS. 41_dispatch.md R74, 30_encoding.md R49 to R55: every recognised word is the word of the instruction found for it. -/

namespace Sys2Proof.Machine

/-! The instruction of a map carries every field of its layout, and its row's selectors are the ones matched, so its word
is the layout of all the fields. -/

theorem encode_of_decodeSpecial {f : Fields} {i : Instr} (h : decodeSpecial f = some i) :
    encode i = wordR 0x00#6 f.rs f.rt f.rd f.shamt f.funct := by
  unfold decodeSpecial at h
  split at h <;> cases h
  all_goals rw [‹f.funct = _›, encode]

theorem encode_of_decodeRegimm {f : Fields} {i : Instr} (h : decodeRegimm f = some i) :
    encode i = wordI 0x01#6 f.rs f.rt f.imm := by
  unfold decodeRegimm at h
  split at h <;> cases h
  all_goals rw [‹f.rt = _›, encode]

theorem encode_of_decodeSpecial2 {f : Fields} {i : Instr} (h : decodeSpecial2 f = some i) :
    encode i = wordR 0x1C#6 f.rs f.rt f.rd f.shamt f.funct := by
  unfold decodeSpecial2 at h
  split at h <;> cases h
  all_goals rw [‹f.funct = _›, encode]

/-- The opcodes without a map of their own use the I layout or, for `j`, `jal` and `trap`, the J layout. -/
theorem encode_of_decodeDirect {f : Fields} {i : Instr} (h : decodeDirect f = some i) :
    encode i = wordI f.opcode f.rs f.rt f.imm ∨ encode i = wordJ f.opcode f.target := by
  unfold decodeDirect at h
  split at h <;> cases h
  all_goals simp only [‹f.opcode = _›, encode, true_or, or_true]

/-- The dispatch drops no bit of the word: whichever map answers, the layout of the word's own slices is the word. -/
theorem encode_of_decodeFields_slices {w : Word} {i : Instr} (h : decodeFields (slices w) = some i) : encode i = w := by
  obtain ⟨ho, hmap⟩ | ⟨ho, hmap⟩ | ⟨ho, hmap⟩ | ⟨-, hmap⟩ := decodeFields_cases (slices w) <;> rw [hmap] at h
  · rw [encode_of_decodeSpecial h, ← ho]
    exact Laws.wordR_slices w
  · rw [encode_of_decodeRegimm h, ← ho]
    exact Laws.wordI_slices w
  · rw [encode_of_decodeSpecial2 h, ← ho]
    exact Laws.wordR_slices w
  · rcases encode_of_decodeDirect h with hi | hj
    · exact hi.trans (Laws.wordI_slices w)
    · exact hj.trans (Laws.wordJ_slices w)

/-- The one ill-formed term has the zero word, which is the word of `nop` (30_encoding.md R55). -/
theorem encode_of_not_wf {i : Instr} (h : i.wf = false) : encode i = 0x00000000#32 := by
  cases i with
  | sll rs rt rd shamt =>
    simp only [Instr.wf, Bool.not_eq_false', Bool.and_eq_true, beq_iff_eq] at h
    obtain ⟨⟨⟨rfl, rfl⟩, rfl⟩, rfl⟩ := h
    rfl
  | _ => cases h

/-- An instruction comes from the zero test or, for any other word, from the dispatch on its slices (41_dispatch.md R72). -/
theorem decodeWord_ok_cases {w : Word} {i : Instr} (h : decodeWord w = .ok i) :
    (w = 0x00000000#32 ∧ i = .nop) ∨ (w ≠ 0x00000000#32 ∧ decodeFields (slices w) = some i) := by
  by_cases hw : w = 0x00000000#32
  · subst hw
    exact .inl ⟨rfl, Except.ok.inj (h.symm.trans decodeWord_zero)⟩
  · rcases hd : decodeFields (slices w) with _ | j
    · cases h.symm.trans (decodeWord_of_none hd)
    · obtain rfl : i = j := Except.ok.inj (h.symm.trans (decodeWord_of_some hw hd))
      exact .inr ⟨hw, rfl⟩

/-- Settles O36: the dispatch drops no bit of a word, and a word that is not zero is the word of no ill-formed term. -/
theorem encodeOfDecodeIsIdentity : Obligations.EncodeOfDecodeIsIdentity := by
  intro w i h
  obtain ⟨rfl, rfl⟩ | ⟨hw, hd⟩ := decodeWord_ok_cases h
  · exact ⟨rfl, rfl⟩
  · have he := encode_of_decodeFields_slices hd
    refine ⟨?_, he⟩
    by_contra hwf
    exact hw (he.symm.trans (encode_of_not_wf (Bool.eq_false_iff.mpr hwf)))

end Sys2Proof.Machine
end

section
/-! PROOFS. 41_dispatch.md R70 and R80, 60_exceptions.md R400: the two outcomes of `decode` and the ports in each. -/

namespace Sys2Proof.Machine

/-- Settles O33: the extraction never fails, so the table has an entry for the slices or it has none. -/
theorem decodeIsTotalWithOneError : Obligations.DecodeIsTotalWithOneError := by
  intro w a
  rcases hl : lookup w (slices w) with _ | d
  · exact .inr (decode_of_lookup_none hl a)
  · exact .inl ⟨_, decode_of_lookup hl a, rfl⟩

/-- Settles O57: every port is read off the result, which is one of the two outcomes of `decode`. -/
theorem portsAndCodesFollowTheResult : Obligations.PortsAndCodesFollowTheResult := by
  intro w a
  simp only [addrO, okO, mnemonicO, formatO, operandsO, errOpcodeO, errFunctionO]
  obtain ⟨d, h, rfl⟩ | h := decodeIsTotalWithOneError w a
  · simp [h, DecodeResult.code]
  · simp [h, DecodeResult.code]

end Sys2Proof.Machine
end

section
/-! PROOFS. 41_dispatch.md R80, 90_conflicts.md C9: how long the texts of a decoded instruction can be. -/

namespace Sys2Proof.Machine

theorem regname_length_le (i : RegIndex) : (regname i).length ≤ 5 := by
  revert i
  decide

/-- A number below `16 ^ e` has at most `e` digits after its `0x` (42_formatter.md R92). -/
theorem hexu_length_le {n e : Nat} (he : 0 < e) (h : n < 16 ^ e) : (hexu n).length ≤ 2 + e := by
  have hdigits : (String.ofList (Nat.toDigits 16 n)).length ≤ e := by
    rw [String.length_ofList]
    exact Nat.toDigits_length 16 n e he h
  rw [hexu, String.length_append]
  exact Nat.add_le_add_left hdigits 2

theorem dec_length_le {n e : Nat} (he : 0 < e) (h : n < 10 ^ e) : (dec n).length ≤ e := by
  rw [dec, String.length_ofList]
  exact Nat.toDigits_length 10 n e he h

/-- A signed immediate prints a sign, `0x` and four digits at most: its magnitude is at most `0x8000`. -/
theorem hexs_sext16_length_le (imm : Imm16) : (hexs (sext16 imm)).length ≤ 7 := by
  have hrange := signExtend_bounds (value := imm.toNat) (width := 16) imm.isLt
  have habs : (sext16 imm).natAbs < 16 ^ 4 := by
    unfold sext16
    omega
  have hlen := hexu_length_le (e := 4) (by decide) habs
  unfold hexs
  split
  · rw [String.length_append]
    exact Nat.add_le_add_left hlen 1
  · omega

/-- The longest operand texts, of 21 characters, hold two registers and a signed immediate; three registers take 19
(42_formatter.md R100 to R115). -/
theorem formatOperands_length_le (cls : OperandClass) (f : Fields) : (formatOperands cls f).length ≤ 21 := by
  have hrs := regname_length_le f.rs
  have hrt := regname_length_le f.rt
  have hrd := regname_length_le f.rd
  have hsimm := hexs_sext16_length_le f.imm
  have huimm : (hexu (zext16 f.imm)).length ≤ 6 := hexu_length_le (e := 4) (by decide) f.imm.isLt
  have hshamt : (dec f.shamt.toNat).length ≤ 2 := dec_length_le (by decide) (f.shamt.isLt.trans (by decide))
  have htarget : (dec (jtarget f.target).toNat).length ≤ 10 :=
    dec_length_le (by decide) ((jtarget f.target).isLt.trans (by decide))
  have hcode : (hexu f.target.toNat).length ≤ 9 := hexu_length_le (e := 7) (by decide) (f.target.isLt.trans (by decide))
  have hcomma : (", " : Text).length = 2 := by decide
  have hopen : ("(" : Text).length = 1 := by decide
  have hclose : (")" : Text).length = 1 := by decide
  cases cls with
  | none => exact Nat.zero_le 21
  | _ =>
    simp only [formatOperands, textRdRtSa, textRdRtRs, textRs, textRdRs, textRd, textRsRt, textRdRsRt, textRsSimm,
      textRsRtSimm, textRtRsSimm, textRtRsUimm, textRtUimm, textRtOffBase, textTarget, textCode26, String.length_append]
    omega

theorem mnemonic_length_of_lookup {w : Word} {f : Fields} {d : Descriptor} (h : lookup w f = some d) :
    1 ≤ d.mnemonic.length ∧ d.mnemonic.length ≤ 6 :=
  lookup_forall (P := fun d => 1 ≤ d.mnemonic.length ∧ d.mnemonic.length ≤ 6)
    (by decide) (by decide) (by decide) (by decide) (by decide) h

/-- Settles O55: the mnemonic is a table entry's and the operand text the formatter's; two words reach the upper bounds. -/
theorem textsAreBounded : Obligations.TextsAreBounded := by
  refine ⟨?bounds, by decide, ⟨_, rfl, rfl⟩⟩
  case bounds =>
    intro w a d h
    obtain ⟨f, desc, -, hl, rfl⟩ := decode_ok h
    obtain ⟨hpos, hle⟩ := mnemonic_length_of_lookup hl
    exact ⟨hpos, hle, formatOperands_length_le desc.cls f⟩

end Sys2Proof.Machine
end

section
/-! PROOFS. 42_formatter.md R91 to R93: the digits of a printed number denote it, without padding. -/

namespace Sys2Proof.Machine

/-- The recursion of a number's digits: those of its quotient by the base, then one more (42_formatter.md R92, R93). -/
theorem digit_induction {b : Nat} (hb : 1 < b) {P : Nat → Prop} (single : ∀ n < b, P n)
    (snoc : ∀ n, b ≤ n → P (n / b) → P n) (n : Nat) : P n := by
  induction n using Nat.strongRecOn with
  | ind n ih =>
    rcases Nat.lt_or_ge n b with hlt | hge
    · exact single n hlt
    · exact snoc n hge (ih (n / b) (Nat.div_lt_self (by omega) hb))

theorem digitsValue_append_singleton (b : Nat) (cs : List Char) (c : Char) :
    digitsValue b (cs ++ [c]) = b * digitsValue b cs + digitsValue b [c] := by
  simp [digitsValue]

/-- A digit character's code gives the digit back, for `0` to `9` and `a` to `f` (42_formatter.md R92); a single digit has
the same value in every base. -/
theorem digitsValue_digitChar (b : Nat) {d : Nat} (hd : d < 16) : digitsValue b [Nat.digitChar d] = d := by
  have hcode : ∀ d < 16, digitsValue 0 [Nat.digitChar d] = d := by decide
  calc digitsValue b [Nat.digitChar d] = digitsValue 0 [Nat.digitChar d] := by simp [digitsValue]
    _ = d := hcode d hd

theorem digitsValue_toDigits {b : Nat} (hb : 1 < b) (hb16 : b ≤ 16) (n : Nat) :
    digitsValue b (Nat.toDigits b n) = n := by
  induction n using digit_induction hb with
  | single n hlt => rw [Nat.toDigits_of_lt_base hlt, digitsValue_digitChar b (by omega)]
  | snoc n hge ih =>
    have hr : n % b < 16 := (Nat.mod_lt n (by omega)).trans_le hb16
    rw [Nat.toDigits_of_base_le hb hge, digitsValue_append_singleton, ih, digitsValue_digitChar b hr, Nat.div_add_mod]

/-- No padding: of two digits or more the first is that of the quotient by the base, which is not 0. -/
theorem toDigits_eq_zero_of_head {b : Nat} (hb : 1 < b) (hb16 : b ≤ 16) (n : Nat)
    (h : (Nat.toDigits b n).head? = some '0') : Nat.toDigits b n = ['0'] := by
  induction n using digit_induction hb with
  | single n hlt =>
    rw [Nat.toDigits_of_lt_base hlt] at h ⊢
    rw [Option.some.inj h]
  | snoc n hge ih =>
    rw [Nat.toDigits_of_base_le hb hge, List.head?_append_of_ne_nil _ Nat.toDigits_ne_nil] at h
    have hzero : n / b = 0 := by
      rw [← digitsValue_toDigits hb hb16 (n / b), ih h]
      exact digitsValue_digitChar b (d := 0) (by decide)
    have hpos : 0 < n / b := Nat.div_pos hge (by omega)
    omega

theorem hexs_of_nonneg {v : Int} (h : 0 ≤ v) : hexs v = hexu v.toNat := by
  rw [hexs, if_neg (by omega), show v.natAbs = v.toNat by omega]

theorem hexs_of_neg {v : Int} (h : v < 0) : hexs v = "-" ++ hexu (-v).toNat := by
  rw [hexs, if_pos h, show v.natAbs = (-v).toNat by omega]

/-- The characters of a number in base `b` are in any alphabet that holds the first `b` digit characters. -/
theorem mem_of_mem_toDigits {b : Nat} (hb : 1 < b) {alphabet : List Char} (hdigits : ∀ d < b, Nat.digitChar d ∈ alphabet)
    (n : Nat) : ∀ c ∈ Nat.toDigits b n, c ∈ alphabet := by
  intro c hc
  obtain ⟨d, hd, rfl⟩ := exists_digitChar_of_mem_toDigits hb n hc
  exact hdigits d hd

/-- Settles O7: `hexu` and `dec` print the digits of the number in their base, which denote it and have no leading zero. -/
theorem numberTextsDenoteTheirNumbers : Obligations.NumberTextsDenoteTheirNumbers := by
  refine ⟨fun v => hexs_of_nonneg, fun v => hexs_of_neg, fun n => ⟨Nat.toDigits 16 n, rfl, ?hexChars, ?hexValue,
    Nat.toDigits_ne_nil, ?hexHead⟩, fun n => ⟨Nat.toDigits 10 n, rfl, ?decChars, ?decValue, Nat.toDigits_ne_nil, ?decHead⟩⟩
  case hexChars => exact mem_of_mem_toDigits (by decide) (by decide) n
  case hexValue => exact digitsValue_toDigits (by decide) (by decide) n
  case hexHead => exact toDigits_eq_zero_of_head (by decide) (by decide) n
  case decChars => exact mem_of_mem_toDigits (by decide) (by decide) n
  case decValue => exact digitsValue_toDigits (by decide) (by decide) n
  case decHead => exact toDigits_eq_zero_of_head (by decide) (by decide) n

end Sys2Proof.Machine
end

section
/-! PROOFS. 42_formatter.md R117: the address of a word has no part in its texts. -/

namespace Sys2Proof.Machine

/-- Settles O34: the fields and the table entry of an `Ok` are the word's, and at any address they give the same texts. -/
theorem addressIsOnlyALabel : Obligations.AddressIsOnlyALabel := by
  intro w a b d h
  obtain ⟨f, desc, hf, hl, rfl⟩ := decode_ok h
  obtain rfl : slices w = f := Except.ok.inj ((fieldsOf_eq_slices w).symm.trans hf)
  exact ⟨decode_of_lookup hl b, desc.cls, slices w, hf, rfl⟩

end Sys2Proof.Machine
end

section
/-! PROOFS. 42_formatter.md R90, R94, R95 and R100 to R115: the register names, the operand classes and the text line. -/

namespace Sys2Proof.Machine

/-- The register-name ROM, read at its 32 indices in order (42_formatter.md R90). -/
theorem map_regname_finRange : (List.finRange 32).map (fun i => regname (BitVec.ofFin i)) =
    ["$zero", "$at", "$v0", "$v1", "$a0", "$a1", "$a2", "$a3", "$t0", "$t1", "$t2", "$t3", "$t4", "$t5", "$t6", "$t7",
     "$s0", "$s1", "$s2", "$s3", "$s4", "$s5", "$s6", "$s7", "$t8", "$t9", "$k0", "$k1", "$gp", "$sp", "$fp", "$ra"] := by
  decide

/-- The table's names are pairwise different, and every index is read from it. -/
theorem regname_injective : Function.Injective regname := by
  intro i j h
  have hnodup : ((List.finRange 32).map (fun i => regname (BitVec.ofFin i))).Nodup := by
    rw [map_regname_finRange]
    decide
  exact BitVec.eq_of_toFin_eq
    (List.inj_on_of_nodup_map hnodup (List.mem_finRange i.toFin) (List.mem_finRange j.toFin) h)

theorem regname_length (i : RegIndex) : (regname i).length = if i = 0#5 then 5 else 3 := by
  revert i
  decide

/-- Settles O6: the ROM is the table, whose names differ. -/
theorem registerNamesAreTheTable : Obligations.RegisterNamesAreTheTable :=
  ⟨map_regname_finRange, fun _ _ h => regname_injective h, regname_length⟩

/-- Settles O8: the class alone selects the text function, each of which is its rule written out. -/
theorem formatterRendersByClass : Obligations.FormatterRendersByClass :=
  fun _ => ⟨rfl, rfl, rfl, rfl, rfl, rfl, rfl, rfl, rfl, rfl, rfl, rfl, rfl, rfl, rfl, rfl⟩

theorem DecodedInstruction.line_of_no_operands {d : DecodedInstruction} (h : d.operandText = "") : d.line = d.mnemonic :=
  if_pos h

theorem DecodedInstruction.line_of_operands {d : DecodedInstruction} (h : d.operandText ≠ "") :
    d.line = d.mnemonic ++ " " ++ d.operandText :=
  if_neg h

/-- Settles O58: the line by whether there are operands, and the two words through their table entries. -/
theorem lineIsMnemonicThenOperands : Obligations.LineIsMnemonicThenOperands := by
  refine ⟨fun d => ⟨DecodedInstruction.line_of_no_operands, DecodedInstruction.line_of_operands⟩, ?nop, ?add⟩
  case nop => exact ⟨⟨0, "nop", .R, ""⟩, rfl, DecodedInstruction.line_of_no_operands rfl⟩
  case add =>
    exact ⟨⟨0, "add", .R, "$t0, $t1, $t2"⟩, by decide, DecodedInstruction.line_of_operands (by decide)⟩

end Sys2Proof.Machine
end

section
/-! PROOFS. 43_special.md R200 and R202 to R227: the SPECIAL family. The match value of an instruction is its funct under an
opcode of zero; a word that agrees with it reaches that arm of the family's map, and the arm's meaning is one `complete`. -/

namespace Sys2Proof.Machine

/-- A word that agrees with a pattern under a mask has the pattern's slice wherever the mask is all ones. -/
theorem slice_eq_of_and_eq {w mask pattern : Word} (h : w &&& mask = pattern) {start len : Nat}
    (hmask : mask.extractLsb' start len = BitVec.allOnes len) :
    w.extractLsb' start len = pattern.extractLsb' start len := by
  rw [← h, BitVec.extractLsb'_and, hmask, BitVec.and_allOnes]

/-- The mask of the families selected by funct covers the opcode and the funct (30_encoding.md R50, R52). -/
theorem opcodeOf_functOf_of_and_eq {w : Word} {o fn : BitVec 6} (h : w &&& 0xFC00003F#32 = wordR o 0 0 0 0 fn) :
    opcodeOf w = o ∧ functOf w = fn :=
  ⟨(slice_eq_of_and_eq h (by decide)).trans (Laws.wordR_opcode ..),
    (slice_eq_of_and_eq h (by decide)).trans (Laws.wordR_funct ..)⟩

/-- A word under the match value of a funct of SPECIAL decodes to the instruction of that funct's arm, unless it is the
zero word (43_special.md R200, R202). -/
theorem decodeWord_of_special {i : RegIndex → RegIndex → RegIndex → Shamt → Instr} {fn : BitVec 6}
    (harm : ∀ f : Fields, decodeSpecial { f with funct := fn } = some (i f.rs f.rt f.rd f.shamt)) {w : Word}
    (hw : w ≠ 0x00000000#32) (h : w &&& 0xFC00003F#32 = wordR 0x00#6 0 0 0 0 fn) :
    decodeWord w = .ok (i (rsOf w) (rtOf w) (rdOf w) (shamtOf w)) := by
  obtain ⟨ho, rfl⟩ := opcodeOf_functOf_of_and_eq h
  refine decodeWord_of_some hw ?_
  rw [decodeFields, slices_opcode, if_pos ho]
  exact harm (slices w)

/-- A funct that is not zero tells the word from `nop`'s, so its arm is selected without exception. -/
theorem selects_of_special {i : RegIndex → RegIndex → RegIndex → Shamt → Instr} (fn : BitVec 6)
    (hfn : fn ≠ 0x00#6)
    (harm : ∀ f : Fields, decodeSpecial { f with funct := fn } = some (i f.rs f.rt f.rd f.shamt)) :
    Selects (wordR 0x00#6 0 0 0 0 fn) 0xFC00003F#32 fun w => i (rsOf w) (rtOf w) (rdOf w) (shamtOf w) := by
  intro w h
  refine decodeWord_of_special harm ?nonzero h
  case nonzero =>
    rintro rfl
    exact hfn (opcodeOf_functOf_of_and_eq h).2.symm

/-- An instruction whose meaning is one `complete` has that call's effect and no other (49_sequencer.md R342, R351). -/
theorem completes_of_exec {i : Instr} {m : Text} {f : Format} {text : Text}
    (h : ∀ s, exec i s = complete m f text s) : Completes i m f text :=
  fun s => (h s).trans (complete_eq m f text s)

/-- Settles O10: functs 0, 2 and 3 of SPECIAL, of which funct 0 leaves the zero word to `nop`; class `RD_RT_SA`. -/
theorem shiftByAmountDecodesAndPrints : Obligations.ShiftByAmountDecodesAndPrints := by
  refine ⟨fun w h hw => decodeWord_of_special (fn := 0x00#6) (fun _ => rfl) hw h,
    selects_of_special 0x02#6 (by decide) fun _ => rfl, selects_of_special 0x03#6 (by decide) fun _ => rfl, ?completes⟩
  case completes =>
    exact fun _ _ _ _ =>
      ⟨completes_of_exec fun _ => rfl, completes_of_exec fun _ => rfl, completes_of_exec fun _ => rfl⟩

/-- Settles O11: functs 4, 6 and 7 of SPECIAL; class `RD_RT_RS`. -/
theorem shiftByRegisterDecodesAndPrints : Obligations.ShiftByRegisterDecodesAndPrints := by
  refine ⟨selects_of_special 0x04#6 (by decide) fun _ => rfl, selects_of_special 0x06#6 (by decide) fun _ => rfl,
    selects_of_special 0x07#6 (by decide) fun _ => rfl, ?completes⟩
  case completes =>
    exact fun _ _ _ _ =>
      ⟨completes_of_exec fun _ => rfl, completes_of_exec fun _ => rfl, completes_of_exec fun _ => rfl⟩

/-- Settles O12: functs 8 and 9 of SPECIAL; classes `RS` and `RD_RS`. -/
theorem jumpRegisterDecodesAndPrints : Obligations.JumpRegisterDecodesAndPrints := by
  refine ⟨selects_of_special 0x08#6 (by decide) fun _ => rfl, selects_of_special 0x09#6 (by decide) fun _ => rfl,
    ?completes⟩
  case completes =>
    exact fun _ _ _ _ => ⟨completes_of_exec fun _ => rfl, completes_of_exec fun _ => rfl⟩

/-- Settles O13: functs 0x10 to 0x13 of SPECIAL; class `RD` for the two reads and `RS` for the two writes. -/
theorem hiLoMovesDecodeAndPrint : Obligations.HiLoMovesDecodeAndPrint := by
  refine ⟨selects_of_special 0x10#6 (by decide) fun _ => rfl, selects_of_special 0x11#6 (by decide) fun _ => rfl,
    selects_of_special 0x12#6 (by decide) fun _ => rfl, selects_of_special 0x13#6 (by decide) fun _ => rfl, ?completes⟩
  case completes =>
    exact fun _ _ _ _ =>
      ⟨completes_of_exec fun _ => rfl, completes_of_exec fun _ => rfl, completes_of_exec fun _ => rfl,
       completes_of_exec fun _ => rfl⟩

/-- Settles O14: functs 0x18 to 0x1B of SPECIAL; class `RS_RT`. -/
theorem multiplyDivideDecodeAndPrint : Obligations.MultiplyDivideDecodeAndPrint := by
  refine ⟨selects_of_special 0x18#6 (by decide) fun _ => rfl, selects_of_special 0x19#6 (by decide) fun _ => rfl,
    selects_of_special 0x1A#6 (by decide) fun _ => rfl, selects_of_special 0x1B#6 (by decide) fun _ => rfl, ?completes⟩
  case completes =>
    exact fun _ _ _ _ =>
      ⟨completes_of_exec fun _ => rfl, completes_of_exec fun _ => rfl, completes_of_exec fun _ => rfl,
       completes_of_exec fun _ => rfl⟩

/-- Settles O15: functs 0x20 to 0x23, 0x2A and 0x2B of SPECIAL; class `RD_RS_RT`. -/
theorem addSubtractCompareDecodeAndPrint : Obligations.AddSubtractCompareDecodeAndPrint := by
  refine ⟨selects_of_special 0x20#6 (by decide) fun _ => rfl, selects_of_special 0x21#6 (by decide) fun _ => rfl,
    selects_of_special 0x22#6 (by decide) fun _ => rfl, selects_of_special 0x23#6 (by decide) fun _ => rfl,
    selects_of_special 0x2A#6 (by decide) fun _ => rfl, selects_of_special 0x2B#6 (by decide) fun _ => rfl, ?completes⟩
  case completes =>
    exact fun _ _ _ _ =>
      ⟨completes_of_exec fun _ => rfl, completes_of_exec fun _ => rfl, completes_of_exec fun _ => rfl,
       completes_of_exec fun _ => rfl, completes_of_exec fun _ => rfl, completes_of_exec fun _ => rfl⟩

/-- Settles O16: functs 0x24 to 0x27 of SPECIAL; class `RD_RS_RT`. -/
theorem logicalDecodeAndPrint : Obligations.LogicalDecodeAndPrint := by
  refine ⟨selects_of_special 0x24#6 (by decide) fun _ => rfl, selects_of_special 0x25#6 (by decide) fun _ => rfl,
    selects_of_special 0x26#6 (by decide) fun _ => rfl, selects_of_special 0x27#6 (by decide) fun _ => rfl, ?completes⟩
  case completes =>
    exact fun _ _ _ _ =>
      ⟨completes_of_exec fun _ => rfl, completes_of_exec fun _ => rfl, completes_of_exec fun _ => rfl,
       completes_of_exec fun _ => rfl⟩

end Sys2Proof.Machine
end

section
/-! PROOFS. 44_regimm.md R240 to R250: the REGIMM family. The match value of an instruction is its rt under the opcode 1, and
the rest of the word is rs and the immediate; the arm's meaning is one `complete` with class `RS_SIMM`. -/

namespace Sys2Proof.Machine

/-- The mask of the family selected by rt covers the opcode and the rt (30_encoding.md R51). -/
theorem opcodeOf_rtOf_of_and_eq {w : Word} {o : BitVec 6} {rt : RegIndex} (h : w &&& 0xFC1F0000#32 = wordI o 0 rt 0) :
    opcodeOf w = o ∧ rtOf w = rt :=
  ⟨(slice_eq_of_and_eq h (by decide)).trans (Laws.wordI_opcode ..),
    (slice_eq_of_and_eq h (by decide)).trans (Laws.wordI_rt ..)⟩

/-- A word with the opcode 1 is not `nop`'s, and the dispatch hands it to REGIMM's map (41_dispatch.md R72). -/
theorem decodeWord_of_decodeRegimm {w : Word} {i : Instr} (ho : opcodeOf w = 0x01#6)
    (h : decodeRegimm (slices w) = some i) : decodeWord w = .ok i := by
  have hw : w ≠ 0x00000000#32 := by
    rintro rfl
    exact absurd ho (by decide)
  exact decodeWord_of_some hw (by simpa [decodeFields, ho] using h)

/-- A word under the match value of an rt of REGIMM decodes to the instruction of that rt's arm (44_regimm.md R240). -/
theorem selects_of_regimm {i : RegIndex → Imm16 → Instr} (rt : RegIndex)
    (harm : ∀ f : Fields, decodeRegimm { f with rt := rt } = some (i f.rs f.imm)) :
    Selects (wordI 0x01#6 0 rt 0) 0xFC1F0000#32 fun w => i (rsOf w) (immOf w) := by
  intro w h
  obtain ⟨ho, rfl⟩ := opcodeOf_rtOf_of_and_eq h
  exact decodeWord_of_decodeRegimm ho (harm (slices w))

/-- Settles O17: rts 0, 1, 0x10 and 0x11 of REGIMM. -/
theorem regimmBranchesDecodeAndPrint : Obligations.RegimmBranchesDecodeAndPrint := by
  refine ⟨selects_of_regimm 0x00#5 fun _ => rfl, selects_of_regimm 0x01#5 fun _ => rfl,
    selects_of_regimm 0x10#5 fun _ => rfl, selects_of_regimm 0x11#5 fun _ => rfl, ?completes⟩
  case completes =>
    exact fun _ _ =>
      ⟨completes_of_exec fun _ => rfl, completes_of_exec fun _ => rfl, completes_of_exec fun _ => rfl,
       completes_of_exec fun _ => rfl⟩

/-- Settles O18: rts 8 to 0xC and 0xE of REGIMM. -/
theorem trapImmediatesDecodeAndPrint : Obligations.TrapImmediatesDecodeAndPrint := by
  refine ⟨selects_of_regimm 0x08#5 fun _ => rfl, selects_of_regimm 0x09#5 fun _ => rfl,
    selects_of_regimm 0x0A#5 fun _ => rfl, selects_of_regimm 0x0B#5 fun _ => rfl,
    selects_of_regimm 0x0C#5 fun _ => rfl, selects_of_regimm 0x0E#5 fun _ => rfl, ?completes⟩
  case completes =>
    exact fun _ _ =>
      ⟨completes_of_exec fun _ => rfl, completes_of_exec fun _ => rfl, completes_of_exec fun _ => rfl,
       completes_of_exec fun _ => rfl, completes_of_exec fun _ => rfl, completes_of_exec fun _ => rfl⟩

end Sys2Proof.Machine
end

section
/-! PROOFS. 45_special2.md R260 to R267: the SPECIAL2 family. The match value of an instruction is its funct under the opcode
0x1C; the zero word has another opcode, so funct 0 is an arm like the rest, and the arm's meaning is one `complete`. -/

namespace Sys2Proof.Machine

/-- The zero word has opcode 0, so under any other opcode the dispatch alone decides (41_dispatch.md R72). -/
theorem decodeWord_of_opcodeOf_ne_zero {w : Word} {i : Instr} (ho : opcodeOf w ≠ 0x00#6)
    (h : decodeFields (slices w) = some i) : decodeWord w = .ok i := by
  have hw : w ≠ 0x00000000#32 := by
    rintro rfl
    exact ho (by decide)
  exact decodeWord_of_some hw h

/-- A word under the match value of a funct of SPECIAL2 decodes to the instruction of that funct's arm (45_special2.md
R260). -/
theorem selects_of_special2 {i : RegIndex → RegIndex → RegIndex → Shamt → Instr} (fn : BitVec 6)
    (harm : ∀ f : Fields, decodeSpecial2 { f with funct := fn } = some (i f.rs f.rt f.rd f.shamt)) :
    Selects (wordR 0x1C#6 0 0 0 0 fn) 0xFC00003F#32 fun w => i (rsOf w) (rtOf w) (rdOf w) (shamtOf w) := by
  intro w h
  obtain ⟨ho, rfl⟩ := opcodeOf_functOf_of_and_eq h
  refine decodeWord_of_opcodeOf_ne_zero (by simp [ho]) ?dispatch
  case dispatch =>
    calc decodeFields (slices w)
      _ = decodeSpecial2 (slices w) := by simp [decodeFields, ho]
      _ = _ := harm (slices w)

/-- Settles O19: functs 0 to 2, 4 and 5 of SPECIAL2; class `RD_RS_RT` for `mul` and `RS_RT` for the rest. -/
theorem multiplyAccumulateDecodesAndPrints : Obligations.MultiplyAccumulateDecodesAndPrints := by
  refine ⟨selects_of_special2 0x00#6 fun _ => rfl, selects_of_special2 0x01#6 fun _ => rfl,
    selects_of_special2 0x02#6 fun _ => rfl, selects_of_special2 0x04#6 fun _ => rfl,
    selects_of_special2 0x05#6 fun _ => rfl, ?completes⟩
  case completes =>
    exact fun _ _ _ _ =>
      ⟨completes_of_exec fun _ => rfl, completes_of_exec fun _ => rfl, completes_of_exec fun _ => rfl,
       completes_of_exec fun _ => rfl, completes_of_exec fun _ => rfl⟩

/-- Settles O20: functs 0x20 and 0x21 of SPECIAL2; class `RD_RS`. -/
theorem countLeadingDecodesAndPrints : Obligations.CountLeadingDecodesAndPrints := by
  refine ⟨selects_of_special2 0x20#6 fun _ => rfl, selects_of_special2 0x21#6 fun _ => rfl, ?completes⟩
  case completes =>
    exact fun _ _ _ _ => ⟨completes_of_exec fun _ => rfl, completes_of_exec fun _ => rfl⟩

end Sys2Proof.Machine
end

section
/-! PROOFS. 46_jump_branch.md R280 to R286: the jumps and the branches that the opcode alone selects. The match value is the
opcode over 26 zeros, whichever layout the rest of the word has; the arm's meaning is one `complete`, so none is followed. -/

namespace Sys2Proof.Machine

/-- The mask of the opcodes without a family covers the opcode and nothing else (30_encoding.md R49). -/
theorem opcodeOf_of_and_eq {w : Word} {o : BitVec 6} (h : w &&& 0xFC000000#32 = wordJ o 0) : opcodeOf w = o :=
  (slice_eq_of_and_eq h (by decide)).trans (Laws.wordJ_opcode ..)

/-- The dispatch hands every opcode but those of the three families to the direct map (41_dispatch.md R72). -/
theorem decodeFields_of_primary {f : Fields} (ho : f.opcode ∉ [0x00#6, 0x01#6, 0x1C#6]) :
    decodeFields f = decodeDirect f := by
  simp only [List.mem_cons, List.not_mem_nil, or_false, not_or] at ho
  obtain ⟨hspecial, hregimm, hspecial2⟩ := ho
  rw [decodeFields, if_neg hspecial, if_neg hregimm, if_neg hspecial2]

/-- A word under the match value of an opcode without a family decodes to the instruction of that opcode's arm, which takes
its operands from the slices of the word. -/
theorem selects_of_primary (o : BitVec 6) (i : Fields → Instr) (ho : o ∉ [0x00#6, 0x01#6, 0x1C#6])
    (harm : ∀ f : Fields, decodeDirect { f with opcode := o } = some (i f)) :
    Selects (wordJ o 0) 0xFC000000#32 fun w => i (slices w) := by
  intro w h
  obtain rfl := opcodeOf_of_and_eq h
  have hdispatch : decodeFields (slices w) = some (i (slices w)) :=
    (decodeFields_of_primary ho).trans (harm (slices w))
  exact decodeWord_of_opcodeOf_ne_zero (List.ne_of_not_mem_cons ho) hdispatch

/-- Settles O21: opcodes 2 and 3; class `TARGET`. -/
theorem jumpsDecodeAndPrint : Obligations.JumpsDecodeAndPrint := by
  refine ⟨selects_of_primary 0x02#6 (fun f => .j f.target) (by decide) fun _ => rfl,
    selects_of_primary 0x03#6 (fun f => .jal f.target) (by decide) fun _ => rfl, ?completes⟩
  case completes =>
    exact fun _ => ⟨completes_of_exec fun _ => rfl, completes_of_exec fun _ => rfl⟩

/-- Settles O22: opcodes 4 and 5; class `RS_RT_SIMM`. -/
theorem equalityBranchesDecodeAndPrint : Obligations.EqualityBranchesDecodeAndPrint := by
  refine ⟨selects_of_primary 0x04#6 (fun f => .beq f.rs f.rt f.imm) (by decide) fun _ => rfl,
    selects_of_primary 0x05#6 (fun f => .bne f.rs f.rt f.imm) (by decide) fun _ => rfl, ?completes⟩
  case completes =>
    exact fun _ _ _ => ⟨completes_of_exec fun _ => rfl, completes_of_exec fun _ => rfl⟩

/-- Settles O23: opcodes 6 and 7; class `RS_SIMM`, which reads no rt. -/
theorem signBranchesDecodeAndPrint : Obligations.SignBranchesDecodeAndPrint := by
  refine ⟨selects_of_primary 0x06#6 (fun f => .blez f.rs f.rt f.imm) (by decide) fun _ => rfl,
    selects_of_primary 0x07#6 (fun f => .bgtz f.rs f.rt f.imm) (by decide) fun _ => rfl, ?completes⟩
  case completes =>
    exact fun _ _ _ => ⟨completes_of_exec fun _ => rfl, completes_of_exec fun _ => rfl⟩

end Sys2Proof.Machine
end

section
/-! PROOFS. 49_sequencer.md R346 to R351: the outcome of a request by the state it finds, and what a served request answers
for each front of the stream. -/

namespace Sys2Proof.Machine

theorem step_of_done {s : State} (h : s.seqState = .done) : step s = .fault .streamDone := by
  simp [step, h]

theorem step_of_failed {s : State} (h : s.seqState = .failed) : step s = .fault .streamFailed := by
  simp [step, h]

theorem step_of_not_asks {s : State} (hr : s.seqState = .run) (ha : s.sinkAsks = false) : step s = .fault .sinkStopped := by
  simp [step, hr, ha]

theorem step_of_not_fits {s : State} (hr : s.seqState = .run) (ha : s.sinkAsks = true) (hc : s.inContract = false) :
    step s = .refused .addressOverflow := by
  simp [step, hr, ha, hc]

theorem State.Ready.step_eq {s : State} (h : s.Ready) : step s = serve s :=
  step_of_ready h.running h.asks h.fits

theorem ready_of_step {s t : State} (h : step s = .next t) : s.Ready := by
  obtain ⟨hrun, hasks, hfits, -⟩ := step_next h
  exact ⟨hrun, hasks, hfits⟩

theorem serve_of_exhausted {s : State} (h : s.input = []) : serve s = .next s.finish := by
  have hf : fetch s = .exhausted s := by simp [fetch, h]
  rw [serve, hf]
  rfl

theorem serve_of_short {s : State} (hpos : 0 < s.input.length) (hlt : s.input.length < 4) :
    serve s = .next (({ s with input := [] } : State).emit (.err (.truncatedInstruction s.addr))).fail := by
  obtain ⟨hin, -⟩ | ⟨-, -, hf⟩ | ⟨_, _, _, _, _, hin, -⟩ := fetch_cases s
  · simp [hin] at hpos
  · rw [serve, hf]
    rfl
  · have hge : 4 ≤ s.input.length := by simp [hin]
    omega

/-- Serving a word runs the instruction it decodes to, after the four bytes are taken (49_sequencer.md R341, R351). -/
theorem serve_of_decodeWord_ok {s : State} {b0 b1 b2 b3 : Byte} {rest : List Byte} {i : Instr}
    (hin : s.input = b0 :: b1 :: b2 :: b3 :: rest) (hd : decodeWord (assembleWord b0 b1 b2 b3) = .ok i) :
    serve s = exec i { s with input := rest, consumed := s.consumed + 4 } := by
  simp only [serve, fetch_of_input_cons hin, hd]

/-! The instruction of a map is the entry of its table: it completes with the entry's mnemonic and tag and the text of the
entry's class. -/

theorem exists_specialTable_completes {f : Fields} {i : Instr} (h : decodeSpecial f = some i) :
    ∃ d, specialTable f.funct = some d ∧ Completes i d.mnemonic d.format (formatOperands d.cls f) := by
  unfold decodeSpecial at h
  split at h <;> cases h
  all_goals rw [‹f.funct = _›]; exact ⟨_, rfl, completes_of_exec fun _ => rfl⟩

theorem exists_regimmTable_completes {f : Fields} {i : Instr} (h : decodeRegimm f = some i) :
    ∃ d, regimmTable f.rt = some d ∧ Completes i d.mnemonic d.format (formatOperands d.cls f) := by
  unfold decodeRegimm at h
  split at h <;> cases h
  all_goals rw [‹f.rt = _›]; exact ⟨_, rfl, completes_of_exec fun _ => rfl⟩

theorem exists_special2Table_completes {f : Fields} {i : Instr} (h : decodeSpecial2 f = some i) :
    ∃ d, special2Table f.funct = some d ∧ Completes i d.mnemonic d.format (formatOperands d.cls f) := by
  unfold decodeSpecial2 at h
  split at h <;> cases h
  all_goals rw [‹f.funct = _›]; exact ⟨_, rfl, completes_of_exec fun _ => rfl⟩

theorem exists_primaryTable_completes {f : Fields} {i : Instr} (h : decodeDirect f = some i) :
    ∃ d, primaryTable f.opcode = some d ∧ Completes i d.mnemonic d.format (formatOperands d.cls f) := by
  unfold decodeDirect at h
  split at h <;> cases h
  all_goals rw [‹f.opcode = _›]; exact ⟨_, rfl, completes_of_exec fun _ => rfl⟩

/-- The dispatch and the opcode table choose their map and their table alike (41_dispatch.md R72). -/
theorem exists_lookup_completes_of_decodeFields {w : Word} {f : Fields} {i : Instr} (hw : w ≠ 0x00000000#32)
    (h : decodeFields f = some i) :
    ∃ d, lookup w f = some d ∧ Completes i d.mnemonic d.format (formatOperands d.cls f) := by
  rw [lookup, if_neg hw]
  obtain ⟨ho, hm⟩ | ⟨ho, hm⟩ | ⟨ho, hm⟩ | ⟨⟨h0, h1, h2⟩, hm⟩ := decodeFields_cases f <;> rw [hm] at h
  · simpa [ho] using exists_specialTable_completes h
  · simpa [ho] using exists_regimmTable_completes h
  · simpa [ho] using exists_special2Table_completes h
  · simpa [h0, h1, h2] using exists_primaryTable_completes h

/-- The instruction of any word, `nop` included, completes as the word's entry says (41_dispatch.md R72, R76). -/
theorem exists_lookup_completes {w : Word} {i : Instr} (h : decodeWord w = .ok i) :
    ∃ d, lookup w (slices w) = some d ∧ Completes i d.mnemonic d.format (formatOperands d.cls (slices w)) := by
  obtain ⟨rfl, rfl⟩ | ⟨hw, hd⟩ := decodeWord_ok_cases h
  · exact ⟨nopDescriptor, rfl, completes_of_exec fun _ => rfl⟩
  · exact exists_lookup_completes_of_decodeFields hw hd

/-- The meanings and the table-driven decoder give one result: serving a word emits `decode` of it (49_sequencer.md R351). -/
theorem serve_of_word {s : State} {b0 b1 b2 b3 : Byte} {rest : List Byte} (hin : s.input = b0 :: b1 :: b2 :: b3 :: rest) :
    serve s = .next (({ s with input := rest, consumed := s.consumed + 4 } : State).emit
      (decode (assembleWord b0 b1 b2 b3) s.addr)).advance := by
  rcases hd : decodeWord (assembleWord b0 b1 b2 b3) with e | i
  · obtain ⟨rfl, hdec⟩ := (reservedSpaceIsExact _).2 e hd
    simp only [serve, fetch_of_input_cons hin, hd, hdec]
    rfl
  · obtain ⟨d, hl, hc⟩ := exists_lookup_completes hd
    rw [serve_of_decodeWord_ok hin hd, hc, decode_of_lookup hl]
    rfl

/-- Serving a request always answers a next state (60_exceptions.md R404). -/
theorem exists_serve_eq_next (s : State) : ∃ t, serve s = .next t := by
  obtain ⟨hin, -⟩ | ⟨hpos, hlt, -⟩ | ⟨_, _, _, _, _, hin, -⟩ := fetch_cases s
  · exact ⟨_, serve_of_exhausted hin⟩
  · exact ⟨_, serve_of_short hpos hlt⟩
  · exact ⟨_, serve_of_word hin⟩

/-- Every outcome of a request, with the state that has it. -/
theorem step_outcomes (s : State) :
    (∃ r, step s = .fault r) ∨
    (s.seqState = .run ∧ s.sinkAsks = true ∧ s.inContract = false ∧ step s = .refused .addressOverflow) ∨
    (s.Ready ∧ ∃ t, step s = .next t) := by
  rcases hr : s.seqState with _ | _ | _
  · rcases ha : s.sinkAsks with _ | _
    · exact .inl ⟨_, step_of_not_asks hr ha⟩
    · rcases hc : s.inContract with _ | _
      · exact .inr (.inl ⟨rfl, rfl, rfl, step_of_not_fits hr ha hc⟩)
      · have hs : s.Ready := ⟨hr, ha, hc⟩
        exact .inr (.inr ⟨hs, hs.step_eq ▸ exists_serve_eq_next s⟩)
  · exact .inl ⟨_, step_of_done hr⟩
  · exact .inl ⟨_, step_of_failed hr⟩

end Sys2Proof.Machine
end

section
/-! PROOFS. 49_sequencer.md R350, 10_state.md R14: the address width. The last address of a run is known from every state of
it, and no step changes it. -/

namespace Sys2Proof.Machine

/-- The last value `addr` will take: one advance for each complete word left (49_sequencer.md R350). -/
def State.lastAddr (s : State) : Nat := s.addr + 4 * (s.input.length / 4)

theorem inContract_of_unbounded {s : State} (h : s.params.aw = none) : s.inContract = true := by
  simp [State.inContract, h]

theorem inContract_iff_of_width {s : State} {aw : Nat} (h : s.params.aw = some aw) :
    s.inContract = true ↔ s.lastAddr < 2 ^ aw := by
  simp [State.inContract, State.lastAddr, h]

theorem inContract_congr {s t : State} (hp : t.params = s.params) (hl : t.lastAddr = s.lastAddr) :
    t.inContract = s.inContract := by
  rw [State.lastAddr, State.lastAddr] at hl
  rw [State.inContract, State.inContract, hp, hl]

/-- Taking a word moves one advance from the input to `addr`; a short chunk held no word (49_sequencer.md R342, R345). -/
theorem lastAddr_of_step {s t : State} (h : step s = .next t) : t.lastAddr = s.lastAddr := by
  obtain ⟨-, rfl⟩ | ⟨-, hlt, rfl⟩ | ⟨_, _, _, _, rest, _, hin, -, rfl⟩ := step_cases h
  · rfl
  · have hword : s.input.length / 4 = 0 := Nat.div_eq_of_lt hlt
    simp [State.lastAddr, hword]
  · simp only [State.lastAddr, hin, List.length_cons, State.advance_addr, State.advance_input, State.emit_addr,
      State.emit_input]
    omega

theorem inContract_of_step {s t : State} (h : step s = .next t) : t.inContract = true := by
  obtain ⟨hparams, -⟩ := parametersAndHistoryAreKept s t h
  rw [inContract_congr hparams (lastAddr_of_step h)]
  exact (ready_of_step h).fits

/-- Settles O46: the contract bounds the last address of the run, which no step changes and which `addr` never exceeds. -/
theorem contractIsKeptByEveryStep : Obligations.ContractIsKeptByEveryStep := by
  intro s t h
  have hfits := inContract_of_step h
  refine ⟨hfits, fun aw haw => ?_⟩
  exact (Nat.le_add_right ..).trans_lt ((inContract_iff_of_width haw).mp hfits)

/-- A run in which nothing was emitted has a sink that asks (49_sequencer.md R346). -/
theorem sinkAsks_fresh (p : Params) (bytes : List Byte) : (State.fresh p bytes).sinkAsks = true := by
  simp [State.sinkAsks]

theorem step_eq_addressOverflow_iff {s : State} :
    step s = .refused .addressOverflow ↔ s.seqState = .run ∧ s.sinkAsks = true ∧ s.inContract = false := by
  refine ⟨fun h => ?_, fun ⟨hr, ha, hc⟩ => step_of_not_fits hr ha hc⟩
  obtain ⟨r, hf⟩ | ⟨hr, ha, hc, -⟩ | ⟨-, t, hn⟩ := step_outcomes s
  · cases hf.symm.trans h
  · exact ⟨hr, ha, hc⟩
  · cases hn.symm.trans h

theorem step_fresh_eq_addressOverflow_iff (p : Params) (bytes : List Byte) :
    step (State.fresh p bytes) = .refused .addressOverflow ↔ (State.fresh p bytes).inContract = false := by
  simp [step_eq_addressOverflow_iff, sinkAsks_fresh]

/-- Settles O45: a fresh run is in RUN and asks, so the contract alone decides; its last address is `BASE + 4*N`. -/
theorem overflowingRunIsRefused : Obligations.OverflowingRunIsRefused := by
  refine ⟨?bounded, ?unbounded⟩
  case bounded =>
    intro p bytes aw haw
    have hiff := inContract_iff_of_width (s := State.fresh p bytes) haw
    rw [step_fresh_eq_addressOverflow_iff, ← Bool.not_eq_true, hiff, Nat.not_lt]
    rfl
  case unbounded =>
    intro p bytes haw
    rw [ne_eq, step_fresh_eq_addressOverflow_iff, inContract_of_unbounded haw]
    nofun

end Sys2Proof.Machine
end

section
/-! PROOFS. 49_sequencer.md R341 to R347 and R351, 60_exceptions.md R401 to R407: one step of the sequencer. -/

namespace Sys2Proof.Machine

/-- Settles O42: the two ends of the sequencer, each with its fault. -/
theorem endedSequencerHasNoStep : Obligations.EndedSequencerHasNoStep :=
  fun _ => ⟨step_of_done, step_of_failed⟩

/-- Settles O38: a ready request is served, and serving a recognised word runs its instruction. -/
theorem stepRunsDecodedInstruction : Obligations.StepRunsDecodedInstruction :=
  fun _ _ _ _ _ _ _ hs hin hd => hs.step_eq.trans (serve_of_decodeWord_ok hin hd)

/-- Settles O39: a ready request is served, by the front of the stream; only a ready one answers a next state. -/
theorem stepIsTheSequencerStep : Obligations.StepIsTheSequencerStep := by
  refine ⟨fun s hs => ⟨?exhausted, ?short, ?word⟩, ?ended⟩
  case exhausted => exact fun hin => hs.step_eq.trans (serve_of_exhausted hin)
  case short => exact fun hpos hlt => hs.step_eq.trans (serve_of_short hpos hlt)
  case word => exact fun _ _ _ _ _ hin => hs.step_eq.trans (serve_of_word hin)
  case ended => exact fun s hrun t h => hrun (ready_of_step h).running

/-- Settles O40: the step emits `decode` of the word, which for a rejected word is the error with its opcode and funct. -/
theorem unrecognizedWordIsEmittedAndPassedOver : Obligations.UnrecognizedWordIsEmittedAndPassedOver := by
  intro s b0 b1 b2 b3 rest e hs hin hd
  obtain ⟨-, hdec⟩ := (reservedSpaceIsExact _).2 e hd
  refine ⟨_, hs.step_eq.trans (serve_of_word hin), hs.running, rfl, rfl, rfl, rfl, ?output⟩
  case output => rw [hdec]; rfl

/-- Settles O41: the short chunk leaves a failed sequencer, which has no step. -/
theorem shortChunkFailsTheStream : Obligations.ShortChunkFailsTheStream := by
  intro s hs hpos hlt
  refine ⟨_, hs.step_eq.trans (serve_of_short hpos hlt), rfl, rfl, rfl, rfl, rfl, ?final⟩
  case final => exact stepIsTheSequencerStep.2 _ nofun

/-- A decoded word's result carries the address it was given (41_dispatch.md R70). -/
theorem decode_wordAddress (w : Word) (a : Nat) : (decode w a).wordAddress = some a := by
  obtain ⟨d, h, rfl⟩ | h := decodeIsTotalWithOneError w a
  · rw [h]; rfl
  · rw [h]; rfl

/-- Settles O43: of the three things a served step does, taking a word alone advances `addr`, whatever `decode` gives. -/
theorem addressAdvancesByFourPerWord : Obligations.AddressAdvancesByFourPerWord := by
  intro s t h
  obtain ⟨-, -, -, hserve⟩ := step_next h
  obtain ⟨hin, -⟩ | ⟨hpos, hlt, -⟩ | ⟨_, _, _, _, rest, hin, -⟩ := fetch_cases s
  · cases hserve.symm.trans (serve_of_exhausted hin)
    exact ⟨by simp [hin], fun _ => ⟨rfl, hin⟩⟩
  · cases hserve.symm.trans (serve_of_short hpos hlt)
    exact ⟨fun hge => absurd hlt (Nat.not_lt.mpr hge), fun _ => ⟨rfl, rfl⟩⟩
  · cases hserve.symm.trans (serve_of_word hin)
    exact ⟨fun _ => ⟨rfl, by simp [hin], _, rfl, decode_wordAddress _ _⟩, by simp [hin]⟩

/-- Settles O51: only a ready state answers a next state, and whatever the stream holds, serving it answers one. -/
theorem servedExactlyWhenReady : Obligations.ServedExactlyWhenReady :=
  fun s => ⟨fun ⟨_, h⟩ => ready_of_step h, fun hs => hs.step_eq ▸ exists_serve_eq_next s⟩

/-- Settles O52: the only refusal is the address width's, and the one result a step adds is a truncation or a word's. -/
theorem fieldRangeViolationIsUnreachable : Obligations.FieldRangeViolationIsUnreachable := by
  refine ⟨fun w => ⟨slices w, fieldsOf_eq_slices w⟩, fun s => ⟨?refusal, ?output⟩⟩
  case refusal =>
    intro hviolation
    obtain ⟨_, h⟩ | ⟨-, -, -, h⟩ | ⟨-, _, h⟩ := step_outcomes s <;> cases h.symm.trans hviolation
  case output =>
    intro t h hmem
    obtain ⟨-, rfl⟩ | ⟨-, -, rfl⟩ | ⟨_, _, _, _, _, r, -, hr, rfl⟩ := step_cases h
    · exact hmem
    · simpa using hmem
    · obtain ⟨d, rfl, -⟩ | ⟨o, f, rfl⟩ := hr
      · simpa using hmem
      · simpa using hmem

/-- A sink that goes on after every result always asks (49_sequencer.md R346). -/
theorem sinkAsks_of_continues {s : State} (h : s.params.unrecPolicy = .continues) : s.sinkAsks = true := by
  simp [State.sinkAsks, h]

/-- Settles O59: what the sink asks by its policy and the last result; one that asks nothing has its fault. -/
theorem abortingSinkAsksNoMore : Obligations.AbortingSinkAsksNoMore := by
  refine ⟨?aborted, fun _ => sinkAsks_of_continues, ?otherResult⟩
  case aborted =>
    intro s rs a o f hpolicy hrun hout
    exact step_of_not_asks hrun (by simp [State.sinkAsks, hpolicy, hout])
  case otherResult =>
    intro s hlast
    unfold State.sinkAsks
    split
    next h => exact absurd h (hlast _ _ _)
    next => rfl

end Sys2Proof.Machine
end

section
/-! PROOFS. 49_sequencer.md R340, R343 to R345: the results of a whole run, by the words of its stream. -/

namespace Sys2Proof.Machine

/-- A stream is empty, a short chunk, or one word and a stream (49_sequencer.md R351). -/
theorem stream_induction {P : List Byte → Prop} (ended : P [])
    (short : ∀ bytes, 0 < bytes.length → bytes.length < 4 → P bytes)
    (word : ∀ b0 b1 b2 b3 rest, P rest → P (b0 :: b1 :: b2 :: b3 :: rest)) : ∀ bytes, P bytes
  | [] => ended
  | [_] | [_, _] | [_, _, _] => short _ (by simp) (by simp)
  | b0 :: b1 :: b2 :: b3 :: rest => word b0 b1 b2 b3 rest (stream_induction ended short word rest)

theorem streamResults_of_short {bytes : List Byte} (hpos : 0 < bytes.length) (hlt : bytes.length < 4) (a : Nat) :
    streamResults bytes a = [.err (.truncatedInstruction a)] := by
  match bytes with
  | [_] | [_, _] | [_, _, _] => rfl

/-- Four bytes more are one word more and leave the remainder as it was. -/
theorem length_word_cons (b0 b1 b2 b3 : Byte) (rest : List Byte) :
    (b0 :: b1 :: b2 :: b3 :: rest).length / 4 = rest.length / 4 + 1 ∧
      (b0 :: b1 :: b2 :: b3 :: rest).length % 4 = rest.length % 4 := by
  simp only [List.length_cons]
  omega

/-- A step that stays in RUN leaves a ready state when the sink goes on after every result (49_sequencer.md R346). -/
theorem ready_of_continues {s t : State} (h : step s = .next t) (hpolicy : s.params.unrecPolicy = .continues)
    (hrun : t.seqState = .run) : t.Ready := by
  obtain ⟨hparams, -⟩ := parametersAndHistoryAreKept s t h
  exact ⟨hrun, sinkAsks_of_continues (by rw [hparams, hpolicy]), inContract_of_step h⟩

/-- A served run takes one step for each word and one for the end of the stream (49_sequencer.md R343 to R345). -/
theorem run_emits_streamResults {s : State} (hs : s.Ready) (hpolicy : s.params.unrecPolicy = .continues) :
    ∃ t, core.run (s.input.length / 4 + 1) s = .next t ∧
      t.output = s.output ++ streamResults s.input s.addr ∧ t.addr = s.addr + 4 * (s.input.length / 4) ∧
      t.input = [] ∧ t.params = s.params ∧ t.seqState = (if s.input.length % 4 = 0 then .done else .failed) := by
  induction hin : s.input using stream_induction generalizing s with
  | ended =>
    have hstep := hs.step_eq.trans (serve_of_exhausted hin)
    exact ⟨_, run_step hstep 0, by simp [streamResults], by simp, hin, rfl, rfl⟩
  | short bytes hpos hlt =>
    subst hin
    have hstep := hs.step_eq.trans (serve_of_short hpos hlt)
    have hdiv : s.input.length / 4 = 0 := Nat.div_eq_of_lt hlt
    have hmod : s.input.length % 4 ≠ 0 := by omega
    rw [hdiv, if_neg hmod, streamResults_of_short hpos hlt]
    exact ⟨_, run_step hstep 0, rfl, rfl, rfl, rfl, rfl⟩
  | word b0 b1 b2 b3 rest ih =>
    have hstep := hs.step_eq.trans (serve_of_word hin)
    have hready := ready_of_continues hstep hpolicy hs.running
    obtain ⟨t, hrun, hout, haddr, hend, hparams, hseq⟩ := ih hready hpolicy rfl
    obtain ⟨hdiv, hmod⟩ := length_word_cons b0 b1 b2 b3 rest
    rw [hdiv, hmod]
    refine ⟨t, (run_step hstep _).trans hrun, ?output, ?addr, hend, hparams, hseq⟩
    case output => simp [hout, streamResults]
    case addr =>
      have hnext : t.addr = s.addr + 4 + 4 * (rest.length / 4) := haddr
      omega

/-- The results of a stream are one for each complete word, then its truncation if bytes are left over
(49_sequencer.md R343, R345). -/
theorem streamResults_eq_words_append (bytes : List Byte) (a : Nat) :
    ∃ words, WordResultsFrom a words ∧ words.length = bytes.length / 4 ∧ streamResults bytes a = words ++
      (if bytes.length % 4 = 0 then [] else [.err (.truncatedInstruction (a + 4 * (bytes.length / 4)))]) := by
  induction bytes using stream_induction generalizing a with
  | ended => exact ⟨[], trivial, rfl, rfl⟩
  | short bytes hpos hlt =>
    have hdiv : bytes.length / 4 = 0 := Nat.div_eq_of_lt hlt
    have hmod : bytes.length % 4 ≠ 0 := by omega
    rw [hdiv, if_neg hmod, streamResults_of_short hpos hlt]
    exact ⟨[], trivial, rfl, rfl⟩
  | word b0 b1 b2 b3 rest ih =>
    obtain ⟨words, hwords, hlen, heq⟩ := ih (a + 4)
    obtain ⟨hdiv, hmod⟩ := length_word_cons b0 b1 b2 b3 rest
    have hlast : a + 4 * (rest.length / 4 + 1) = a + 4 + 4 * (rest.length / 4) := by omega
    rw [hdiv, hmod, streamResults, heq, hlast]
    exact ⟨_ :: words, ⟨decode_wordAddress _ a, hwords⟩, by rw [List.length_cons, hlen], rfl⟩

/-- Settles O49: the run's end state and results, and what the results are. -/
theorem wholeRunEmitsOneResultPerWord : Obligations.WholeRunEmitsOneResultPerWord :=
  fun s hs hpolicy => ⟨run_emits_streamResults hs hpolicy, streamResults_eq_words_append s.input s.addr⟩

end Sys2Proof.Machine
end

section
/-! PROOFS. 47_immediate.md R301 to R311, 48_loadstore.md R321 to R330: the immediates, `trap`, the loads and the stores. The
opcode alone selects each, and its arm's meaning is one `complete`: nothing is computed, trapped, read or written. -/

namespace Sys2Proof.Machine

/-- Settles O24: opcodes 8 to 0xB; class `RT_RS_SIMM`. -/
theorem immediateArithmeticDecodesAndPrints : Obligations.ImmediateArithmeticDecodesAndPrints := by
  refine ⟨selects_of_primary 0x08#6 (fun f => .addi f.rs f.rt f.imm) (by decide) fun _ => rfl,
    selects_of_primary 0x09#6 (fun f => .addiu f.rs f.rt f.imm) (by decide) fun _ => rfl,
    selects_of_primary 0x0A#6 (fun f => .slti f.rs f.rt f.imm) (by decide) fun _ => rfl,
    selects_of_primary 0x0B#6 (fun f => .sltiu f.rs f.rt f.imm) (by decide) fun _ => rfl, ?completes⟩
  case completes =>
    exact fun _ _ _ =>
      ⟨completes_of_exec fun _ => rfl, completes_of_exec fun _ => rfl, completes_of_exec fun _ => rfl,
       completes_of_exec fun _ => rfl⟩

/-- Settles O25: opcodes 0xC to 0xE; class `RT_RS_UIMM`. -/
theorem immediateLogicalDecodesAndPrints : Obligations.ImmediateLogicalDecodesAndPrints := by
  refine ⟨selects_of_primary 0x0C#6 (fun f => .andi f.rs f.rt f.imm) (by decide) fun _ => rfl,
    selects_of_primary 0x0D#6 (fun f => .ori f.rs f.rt f.imm) (by decide) fun _ => rfl,
    selects_of_primary 0x0E#6 (fun f => .xori f.rs f.rt f.imm) (by decide) fun _ => rfl, ?completes⟩
  case completes =>
    exact fun _ _ _ =>
      ⟨completes_of_exec fun _ => rfl, completes_of_exec fun _ => rfl, completes_of_exec fun _ => rfl⟩

/-- Settles O26: opcodes 0xF, 0x18 and 0x19; class `RT_UIMM`, which reads no rs. -/
theorem loadImmediateDecodesAndPrints : Obligations.LoadImmediateDecodesAndPrints := by
  refine ⟨selects_of_primary 0x0F#6 (fun f => .lui f.rs f.rt f.imm) (by decide) fun _ => rfl,
    selects_of_primary 0x18#6 (fun f => .llo f.rs f.rt f.imm) (by decide) fun _ => rfl,
    selects_of_primary 0x19#6 (fun f => .lhi f.rs f.rt f.imm) (by decide) fun _ => rfl, ?completes⟩
  case completes =>
    exact fun _ _ _ =>
      ⟨completes_of_exec fun _ => rfl, completes_of_exec fun _ => rfl, completes_of_exec fun _ => rfl⟩

/-- Settles O27: opcode 0x1A; class `CODE26`. -/
theorem trapDecodesAndPrints : Obligations.TrapDecodesAndPrints :=
  ⟨selects_of_primary 0x1A#6 (fun f => .trap f.target) (by decide) fun _ => rfl, fun _ => completes_of_exec fun _ => rfl⟩

/-- Settles O28: opcodes 0x20, 0x21 and 0x23 to 0x25; class `RT_OFF_BASE`. -/
theorem loadsDecodeAndPrint : Obligations.LoadsDecodeAndPrint := by
  refine ⟨selects_of_primary 0x20#6 (fun f => .lb f.rs f.rt f.imm) (by decide) fun _ => rfl,
    selects_of_primary 0x21#6 (fun f => .lh f.rs f.rt f.imm) (by decide) fun _ => rfl,
    selects_of_primary 0x23#6 (fun f => .lw f.rs f.rt f.imm) (by decide) fun _ => rfl,
    selects_of_primary 0x24#6 (fun f => .lbu f.rs f.rt f.imm) (by decide) fun _ => rfl,
    selects_of_primary 0x25#6 (fun f => .lhu f.rs f.rt f.imm) (by decide) fun _ => rfl, ?completes⟩
  case completes =>
    exact fun _ _ _ =>
      ⟨completes_of_exec fun _ => rfl, completes_of_exec fun _ => rfl, completes_of_exec fun _ => rfl,
       completes_of_exec fun _ => rfl, completes_of_exec fun _ => rfl⟩

/-- Settles O29: opcodes 0x28, 0x29 and 0x2B; class `RT_OFF_BASE`. -/
theorem storesDecodeAndPrint : Obligations.StoresDecodeAndPrint := by
  refine ⟨selects_of_primary 0x28#6 (fun f => .sb f.rs f.rt f.imm) (by decide) fun _ => rfl,
    selects_of_primary 0x29#6 (fun f => .sh f.rs f.rt f.imm) (by decide) fun _ => rfl,
    selects_of_primary 0x2B#6 (fun f => .sw f.rs f.rt f.imm) (by decide) fun _ => rfl, ?completes⟩
  case completes =>
    exact fun _ _ _ =>
      ⟨completes_of_exec fun _ => rfl, completes_of_exec fun _ => rfl, completes_of_exec fun _ => rfl⟩

/-- Settles O30: opcodes 0x30 and 0x38; class `RT_OFF_BASE`. -/
theorem linkedPairDecodesAndPrints : Obligations.LinkedPairDecodesAndPrints := by
  refine ⟨selects_of_primary 0x30#6 (fun f => .ll f.rs f.rt f.imm) (by decide) fun _ => rfl,
    selects_of_primary 0x38#6 (fun f => .sc f.rs f.rt f.imm) (by decide) fun _ => rfl, ?completes⟩
  case completes =>
    exact fun _ _ _ => ⟨completes_of_exec fun _ => rfl, completes_of_exec fun _ => rfl⟩

end Sys2Proof.Machine
end

section
/-! PROOFS. 70_reset_and_hazards.md R450 and R451, 95_test_vectors.md: reset, and the words of the worked examples. -/

namespace Sys2Proof.Machine

/-- A fresh run has consumed and emitted nothing, and begins in RUN (70_reset_and_hazards.md R451). -/
theorem State.Inv.fresh (p : Params) (bytes : List Byte) : (State.fresh p bytes).Inv :=
  ⟨rfl, ⟨[], trivial, rfl, rfl⟩, fun h => absurd rfl h⟩

/-- Settles O48: `State.reset` is a fresh run as well. -/
theorem freshRunsMeetTheRunInvariant : Obligations.FreshRunsMeetTheRunInvariant :=
  ⟨State.Inv.fresh, State.Inv.fresh Config.defaults []⟩

/-- Settles O56: reset is the fresh state, whatever the state before it. -/
theorem resetState : Obligations.ResetState :=
  ⟨fun _ _ _ => rfl, rfl⟩

/-- The word of a well-formed instruction decodes to it (41_dispatch.md R74). -/
theorem decodeWord_of_encode_eq {i : Instr} {w : Word} (hwf : i.wf = true) (h : encode i = w) : decodeWord w = .ok i :=
  h ▸ decodeOfEncodeIsIdentity i hwf

/-- Settles O37: each word is the encoding of its instruction, and the last has an empty slot of SPECIAL2. -/
theorem writtenWordsDecode : Obligations.WrittenWordsDecode :=
  ⟨decodeWord_zero, decodeWord_of_encode_eq rfl rfl, decodeWord_of_encode_eq rfl rfl, decodeWord_of_encode_eq rfl rfl,
    decodeWord_of_encode_eq rfl rfl, decodeWord_of_encode_eq rfl rfl, decodeWord_of_encode_eq rfl rfl,
    decodeWord_of_encode_eq rfl rfl, decodeWord_of_encode_eq rfl rfl, decodeWord_of_none rfl⟩

end Sys2Proof.Machine
end
